-- ==== Sys2Proof/Word.lean ====
section
/-! DEFINITION. The word widths of the timing core (spec/00_scope.md R9, spec/20_memory.md R62) and its four output
channels. -/

namespace Sys2Proof

/-- A 32-bit word: a CSR, a command word, a downstream datum. -/
abbrev Word := BitVec 32

/-- A 64-bit quantity: `s64` or `u64`, as the rule that uses it says. -/
abbrev DWord := BitVec 64

/-- The output channels 0..3 (spec/00_scope.md R7, `NUM_CH`). -/
inductive Chan where
  | ch0
  | ch1
  | ch2
  | ch3
deriving DecidableEq, Repr

/-- The number of a channel. -/
def Chan.toNat : Chan → Nat
  | .ch0 => 0
  | .ch1 => 1
  | .ch2 => 2
  | .ch3 => 3

/-- The channel a number names, if it is below `NUM_CH`. -/
def Chan.ofNat? : Nat → Option Chan
  | 0 => some .ch0
  | 1 => some .ch1
  | 2 => some .ch2
  | 3 => some .ch3
  | _ => none

end Sys2Proof
end

