-- ==== Sys2Proof/Syntax.lean ====
section
/-! DEFINITION. The instructions: one constructor for each of the 23 rows of spec/opcode_table.json, nine command words
(spec/30_encoding.md R88) and fourteen internal operations (R95). -/

namespace Sys2Proof

/-- The record {utc, coarse, frac, channel, seq} with the widths of spec/00_scope.md R9. -/
structure TimeValue where
  utc     : BitVec 64
  coarse  : BitVec 32
  frac    : BitVec 16
  channel : BitVec 8
  seq     : BitVec 16
deriving DecidableEq, Repr

/-- A TimeValue of zeros. -/
def TimeValue.zero : TimeValue := ⟨0#64, 0#32, 0#16, 0#8, 0#16⟩

/-- "The as-read register tuple (same fields, pre-normalization)": spec/30_encoding.md R93. -/
abbrev RawSample := TimeValue

/-- One constructor per row of spec/opcode_table.json. -/
inductive Instr where
  /-- `nop`, spec/44_device.md R217. -/
  | nop
  /-- `tv.norm`: A to R, spec/40_timevalue.md R116. -/
  | tvNorm
  /-- `tv.add`: A, B to R, spec/40_timevalue.md R118. -/
  | tvAdd
  /-- `tv.sub`: A, B to R, spec/40_timevalue.md R120. -/
  | tvSub
  /-- `tv.p2t`: PS_IN to R, spec/40_timevalue.md R122. -/
  | tvP2t
  /-- `tv.t2p`: A to PS_OUT, spec/40_timevalue.md R124. -/
  | tvT2p
  /-- `dev.open`, spec/44_device.md R216. -/
  | devOpen
  /-- `dev.close`, spec/44_device.md R218. -/
  | devClose
  /-- `cal.start ch`, with the 4-bit unsigned channel of spec/30_encoding.md R89; spec/43_calibrator.md R180. -/
  | calStart (ch : BitVec 4)
  /-- `rb.new`, whose operand is the `RB_CAP` register: spec/41_ringbuffer.md R132. -/
  | rbNew
  /-- `rb.push(s)`: spec/41_ringbuffer.md R133. -/
  | rbPush (x : RawSample)
  /-- `rb.pop()`: spec/41_ringbuffer.md R136. -/
  | rbPop
  /-- `cap.tick`: spec/42_capture.md R149. -/
  | capTick
  /-- `cap.irq`: spec/42_capture.md R150. -/
  | capIrq
  /-- `cap.drain_step`: spec/42_capture.md R147. -/
  | capDrainStep
  /-- `cap.drain_finish`: spec/42_capture.md R151. -/
  | capDrainFinish
  /-- `cap.deliver`: spec/42_capture.md R155. -/
  | capDeliver
  /-- `cal.shot`: spec/43_calibrator.md R184. -/
  | calShot
  /-- `cal.point`: spec/43_calibrator.md R187. -/
  | calPoint
  /-- `cal.fit`: spec/43_calibrator.md R192. -/
  | calFit
  /-- `lc.stop_capture`: spec/44_device.md R219. -/
  | lcStopCapture
  /-- `lc.stop_comp`: spec/44_device.md R219. -/
  | lcStopComp
  /-- `lc.release`: spec/44_device.md R219. -/
  | lcRelease
deriving DecidableEq, Repr

end Sys2Proof
end

