-- ==== Sys2Proof/Config.lean ====
section
/-! DEFINITION. What an implementation fixes: the literals of spec/00_scope.md R7; the parameters of R8, which are the
model's arguments: constants with no value here, so that every statement holds for every choice of them (log 5, log 26);
the logical card registers of spec/20_memory.md R66 and their OPEN downstream addresses (log 6); and the answers the
environment gives that no rule bounds (log 7, log 13). -/

namespace Sys2Proof

/-- The logical card registers the block reads (spec/20_memory.md R66, direction R). -/
inductive ReadReg where
  | fifoCsr
  | fifoUtcHi
  | fifoUtcLo
  | fifoCoarse
  | fifoFrac
  | fifoMeta
  | tdcStatus
  | tdcResult
deriving DecidableEq, Repr

/-- The logical card registers the block writes (spec/20_memory.md R66, direction W). -/
inductive WriteReg where
  | irqEn
  | irqAck
  | chCtrl (ch : Chan)
  | calArm
  | dlyTap (ch : Chan)
  | tdcTrig
  | calPulse
deriving DecidableEq, Repr

/-- A logical card register. -/
inductive CardReg where
  | rd (r : ReadReg)
  | wr (r : WriteReg)
deriving DecidableEq, Repr

/-- The reset values that spec/00_scope.md R8 takes as arguments: of `POLL_MS`, `CAL_SCALE_NUM`, `CAL_SCALE_DEN`,
`CAL_WAIT_MAX` and `COMP_PERIOD_S`. -/
structure ResetValues where
  pollMs     : Word
  scaleNum   : Word
  scaleDen   : Word
  waitMax    : Word
  compPeriod : Word
deriving DecidableEq, Repr, Inhabited

/-- The spec's own defaults for them (spec/00_scope.md R8, spec/70_reset_and_hazards.md R266). -/
def ResetValues.specDefault : ResetValues := ⟨10#32, 3#32, 1#32, 0x0000FFFF#32, 30#32⟩

namespace Config

/-- `COARSE_MOD`, written C: cycles of 8 ns in a second (spec/00_scope.md R7). -/
abbrev coarseMod : Nat := 125000000

/-- `FRAC_MOD` (spec/00_scope.md R7). -/
abbrev fracMod : Nat := 4096

/-- `PS_PER_CYCLE` (spec/00_scope.md R7). -/
abbrev psPerCycle : Nat := 8000

/-- `PS_PER_SEC` (spec/00_scope.md R7). -/
abbrev psPerSec : Nat := 1000000000000

/-- `TAP_MAX` (spec/00_scope.md R7). -/
abbrev tapMax : Nat := 1023

/-- `CAL_TARGET_PS` (spec/00_scope.md R7). -/
abbrev calTargetPs : Nat := 8000

/-- How far `RB_CAP_MAX_LOG2` lies above 1. -/
opaque rbCapAbove : Nat

/-- `RB_CAP_MAX_LOG2`, a parameter (spec/00_scope.md R8, log 5): at least 1, so that some capacity is legal (DEDUCED,
log 26). -/
abbrev rbCapMaxLog2 : Nat := 1 + rbCapAbove

/-- `CAL_N_MAX_LOG2` as a bounded number. -/
opaque calNLog2 : Fin 16

/-- `CAL_N_MAX_LOG2`, a parameter (spec/00_scope.md R8, log 5): at most 15, so that the 16-bit `shot_count` reaches every
legal N without wrapping (DEDUCED from spec/10_state.md R22 and R44, log 26). -/
abbrev calNMaxLog2 : Nat := calNLog2.val

/-- How far `ADDR_W` lies above 5. -/
opaque addrWAbove : Nat

/-- `ADDR_W`, a parameter (spec/00_scope.md R8, log 5): at least 5, so that the 21 logical registers have different
addresses (DEDUCED from spec/20_memory.md R65, log 26). -/
abbrev addrW : Nat := 5 + addrWAbove

/-- The reset values of spec/00_scope.md R8, parameters (log 5). -/
opaque resetValues : ResetValues

/-- The hardwired `ID` (spec/10_state.md R25). -/
abbrev idValue : Word := 0x46445443#32

/-- The platform's placing of the card registers, left OPEN (spec/20_memory.md R65). A bijection of the address space,
so that `downstreamMap` below is injective and fits in `ADDR_W` bits whatever it is. DESIGN CHOICE, safe: log 6. -/
opaque downstreamPlace : Equiv.Perm (BitVec addrW)

/-- A number for each logical card register. -/
def cardRegIndex : CardReg → Nat
  | .rd .fifoCsr => 0
  | .rd .fifoUtcHi => 1
  | .rd .fifoUtcLo => 2
  | .rd .fifoCoarse => 3
  | .rd .fifoFrac => 4
  | .rd .fifoMeta => 5
  | .rd .tdcStatus => 6
  | .rd .tdcResult => 7
  | .wr .irqEn => 8
  | .wr .irqAck => 9
  | .wr .calArm => 10
  | .wr .tdcTrig => 11
  | .wr .calPulse => 12
  | .wr (.chCtrl ch) => 16 + ch.toNat
  | .wr (.dlyTap ch) => 20 + ch.toNat

/-- `DownstreamMap`: the downstream address of a logical register (spec/20_memory.md R65). -/
def downstreamMap (r : CardReg) : BitVec addrW :=
  downstreamPlace (BitVec.ofNat addrW (cardRegIndex r))

/-- The n-th answer of the environment to a downstream read that no rule and no listed draw fixes (spec/10_state.md R47,
log 7 and log 13). -/
opaque downstreamDraw : Nat → Word

end Config

end Sys2Proof
end

