-- ==== Sys2Proof/WellFormed.lean ====
section
/-! DEFINITION. Which instruction terms the spec allows. A command's operand fields are as wide as its encoding, so every
command is well formed (a `cal.start` with a channel of 4..15 decodes and raises CONFIG, spec/30_encoding.md R87). The
one operand the term type does not bound by itself is the RawSample of `rb.push`: "coarse `u32` holding a value < 2^28,
frac `u16` holding a value < 4096" (spec/30_encoding.md R93). -/

namespace Sys2Proof

/-- The bounds of spec/30_encoding.md R93 on a sample read from the card, the raw domain of spec/40_timevalue.md R111. -/
def TimeValue.isRaw (x : TimeValue) : Bool :=
  decide (x.coarse.toNat < 2 ^ 28) && decide (x.frac.toNat < 4096)

/-- The instruction terms the spec allows. -/
def Instr.wellFormed : Instr → Bool
  | .rbPush x => x.isRaw
  | .nop => true
  | .tvNorm => true
  | .tvAdd => true
  | .tvSub => true
  | .tvP2t => true
  | .tvT2p => true
  | .devOpen => true
  | .devClose => true
  | .calStart _ => true
  | .rbNew => true
  | .rbPop => true
  | .capTick => true
  | .capIrq => true
  | .capDrainStep => true
  | .capDrainFinish => true
  | .capDeliver => true
  | .calShot => true
  | .calPoint => true
  | .calFit => true
  | .lcStopCapture => true
  | .lcStopComp => true
  | .lcRelease => true

end Sys2Proof
end

