-- ==== Sys2Proof/Decode.lean ====
section
/-! DEFINITION. The command word of spec/30_encoding.md R86 to R90: the decoder, total on every 32-bit word, and the
encoder, written from the opcode map of R88. The fourteen internal operations have no word (R95). -/

namespace Sys2Proof

/-- The `OPC` values of spec/30_encoding.md R88. -/
abbrev opcNop : BitVec 8 := 0x00#8
abbrev opcTvNorm : BitVec 8 := 0x01#8
abbrev opcTvAdd : BitVec 8 := 0x02#8
abbrev opcTvSub : BitVec 8 := 0x03#8
abbrev opcTvP2t : BitVec 8 := 0x04#8
abbrev opcTvT2p : BitVec 8 := 0x05#8
abbrev opcDevOpen : BitVec 8 := 0x10#8
abbrev opcDevClose : BitVec 8 := 0x11#8
abbrev opcCalStart : BitVec 8 := 0x20#8

/-- Why a word spells no command: the three bullets of spec/30_encoding.md R90. Each executes as ILLEGAL
(spec/60_exceptions.md R244). -/
inductive DecodeReject where
  /-- `RSV != 0`. -/
  | reservedBits
  /-- An `OPC` outside the map of R88. -/
  | reservedOpcode
  /-- `CH != 0` with an `OPC` that takes no channel. -/
  | channelNotZero
deriving DecidableEq, Repr

/-- `OPC` = w[7:0]: spec/30_encoding.md R86. -/
def wordOpc (w : Word) : BitVec 8 := w.extractLsb' 0 8

/-- `CH` = w[11:8]: spec/30_encoding.md R86. -/
def wordCh (w : Word) : BitVec 4 := w.extractLsb' 8 4

/-- `RSV` = w[31:12]: spec/30_encoding.md R86. -/
def wordRsv (w : Word) : BitVec 20 := w.extractLsb' 12 20

/-- The command an `OPC` spells when it takes no channel: the rows of spec/30_encoding.md R88 but `cal.start`. -/
def plainCommand (opc : BitVec 8) : Option Instr :=
  if opc = opcNop then some .nop
  else if opc = opcTvNorm then some .tvNorm
  else if opc = opcTvAdd then some .tvAdd
  else if opc = opcTvSub then some .tvSub
  else if opc = opcTvP2t then some .tvP2t
  else if opc = opcTvT2p then some .tvT2p
  else if opc = opcDevOpen then some .devOpen
  else if opc = opcDevClose then some .devClose
  else none

/-- `Decode(w)`: spec/30_encoding.md R87. -/
def decode (w : Word) : Except DecodeReject Instr :=
  if wordRsv w ≠ 0#20 then .error .reservedBits
  else if wordOpc w = opcCalStart then .ok (.calStart (wordCh w))
  else
    match plainCommand (wordOpc w) with
    | none => .error .reservedOpcode
    | some i => if wordCh w = 0#4 then .ok i else .error .channelNotZero

/-- A command word from its three fields: spec/30_encoding.md R86. -/
def commandWord (opc : BitVec 8) (ch : BitVec 4) : Word := 0#20 ++ ch ++ opc

/-- The word of a command, from the opcode map of spec/30_encoding.md R88; an internal operation has none (R95). -/
def encode : Instr → Option Word
  | .nop => some (commandWord opcNop 0#4)
  | .tvNorm => some (commandWord opcTvNorm 0#4)
  | .tvAdd => some (commandWord opcTvAdd 0#4)
  | .tvSub => some (commandWord opcTvSub 0#4)
  | .tvP2t => some (commandWord opcTvP2t 0#4)
  | .tvT2p => some (commandWord opcTvT2p 0#4)
  | .devOpen => some (commandWord opcDevOpen 0#4)
  | .devClose => some (commandWord opcDevClose 0#4)
  | .calStart ch => some (commandWord opcCalStart ch)
  | .rbNew => none
  | .rbPush _ => none
  | .rbPop => none
  | .capTick => none
  | .capIrq => none
  | .capDrainStep => none
  | .capDrainFinish => none
  | .capDeliver => none
  | .calShot => none
  | .calPoint => none
  | .calFit => none
  | .lcStopCapture => none
  | .lcStopComp => none
  | .lcRelease => none

/-- One row of the opcode map of spec/30_encoding.md R88: the row is selected when `(w & mask) = pattern`. -/
structure OpcodeRow where
  mnemonic : String
  pattern  : Word
  mask     : Word
deriving DecidableEq, Repr

/-- The opcode map of spec/30_encoding.md R88. -/
def opcodeMap : List OpcodeRow :=
  [ ⟨"nop", 0x00000000#32, 0xFFFFFFFF#32⟩,
    ⟨"tv.norm", 0x00000001#32, 0xFFFFFFFF#32⟩,
    ⟨"tv.add", 0x00000002#32, 0xFFFFFFFF#32⟩,
    ⟨"tv.sub", 0x00000003#32, 0xFFFFFFFF#32⟩,
    ⟨"tv.p2t", 0x00000004#32, 0xFFFFFFFF#32⟩,
    ⟨"tv.t2p", 0x00000005#32, 0xFFFFFFFF#32⟩,
    ⟨"dev.open", 0x00000010#32, 0xFFFFFFFF#32⟩,
    ⟨"dev.close", 0x00000011#32, 0xFFFFFFFF#32⟩,
    ⟨"cal.start", 0x00000020#32, 0xFFFFF0FF#32⟩ ]

/-- The name an instruction has in the opcode map and in spec/30_encoding.md R95. -/
def Instr.mnemonic : Instr → String
  | .nop => "nop"
  | .tvNorm => "tv.norm"
  | .tvAdd => "tv.add"
  | .tvSub => "tv.sub"
  | .tvP2t => "tv.p2t"
  | .tvT2p => "tv.t2p"
  | .devOpen => "dev.open"
  | .devClose => "dev.close"
  | .calStart _ => "cal.start"
  | .rbNew => "rb.new"
  | .rbPush _ => "rb.push"
  | .rbPop => "rb.pop"
  | .capTick => "cap.tick"
  | .capIrq => "cap.irq"
  | .capDrainStep => "cap.drain_step"
  | .capDrainFinish => "cap.drain_finish"
  | .capDeliver => "cap.deliver"
  | .calShot => "cal.shot"
  | .calPoint => "cal.point"
  | .calFit => "cal.fit"
  | .lcStopCapture => "lc.stop_capture"
  | .lcStopComp => "lc.stop_comp"
  | .lcRelease => "lc.release"

/-- The instruction `decode` reads from a table word of `nbits` bits, every bit above `nbits` zero. A command is one
32-bit word (spec/30_encoding.md R86), so a longer row spells none (log 22). -/
def decodeTableWord (nbits w : Nat) : Option Instr :=
  if nbits ≤ 32 then
    match decode (BitVec.ofNat 32 (w % 2 ^ nbits)) with
    | .ok i => some i
    | .error _ => none
  else none

end Sys2Proof
end

