-- ==== Sys2Proof/Machine/State.lean ====
section
/-! DEFINITION. The state of the timing core: every piece of state spec/10_state.md names, the card behind the downstream
port (section 9 there), and the model's own fields (the schedule, the port record, the last host read), each marked so.
Plain data. INVENTORY.md lists every field with its rule and its reset value. -/

namespace Sys2Proof.Machine

/-- One value for each output channel. -/
structure Quad (α : Type) where
  c0 : α
  c1 : α
  c2 : α
  c3 : α
deriving DecidableEq, Repr

/-- The error codes of spec/60_exceptions.md R236. A reserved code cannot be written down (spec/93 U19). -/
inductive ErrCode where
  | ok
  | config
  | hwFault
  | overflow
  | timeout
  | domain
  | illegal
  | busy
  | state
  | measFail
deriving DecidableEq, Repr

/-- `DEV_STATE` (spec/10_state.md R50): CLOSED, OPEN, CLOSING. -/
inductive DevState where
  | closed
  | opened
  | closing
deriving DecidableEq, Repr

/-- `LOCK` (spec/10_state.md R49): FREE, CAL, COMP. -/
inductive LockState where
  | free
  | cal
  | comp
deriving DecidableEq, Repr

/-- `lc_phase` (spec/10_state.md R44). -/
inductive LcPhase where
  | none
  | stopCapture
  | stopComp
  | release
deriving DecidableEq, Repr

/-- `DR_STATE` (spec/10_state.md R44). -/
inductive DrState where
  | idle
  | active
  | finish
deriving DecidableEq, Repr

/-- The capture modes, for `cap_mode_l` and `dr_ctx` (spec/10_state.md R44). -/
inductive CapMode where
  | poll
  | irq
deriving DecidableEq, Repr

/-- `CAL_STATE.STATE` (spec/10_state.md R38). -/
inductive CalFsm where
  | idle
  | measuringBias
  | binarySearching
  | converged
deriving DecidableEq, Repr

/-- `phase` (spec/10_state.md R44; `none` outside a run, spec/70_reset_and_hazards.md R266). -/
inductive CalPhase where
  | none
  | bias
  | search
  | fit
deriving DecidableEq, Repr

/-- `OutRec`, a record of the timestamp output stream (spec/30_encoding.md R94). -/
structure OutRec where
  utc     : BitVec 64
  coarse  : BitVec 32
  frac    : BitVec 16
  channel : BitVec 8
  seq     : BitVec 16
  gap     : BitVec 16
  flags   : BitVec 8
deriving DecidableEq, Repr

/-- What `rb.push` and `rb.pop` return (spec/41_ringbuffer.md R133, R136); `none` before any. -/
inductive RingReturn where
  | none
  | ok
  | overflow (drop : BitVec 64)
  | empty
  | sample (x : RawSample)
deriving DecidableEq, Repr

/-- The ring storage: (slot index, sample) pairs, indexes strictly rising; an unlisted slot is unwritten
(spec/10_state.md R51, log 3). -/
abbrev Memory := List (Nat × RawSample)

/-- The canonical form of the ring storage: indexes strictly rising. -/
abbrev Memory.wf (m : Memory) : Prop := m.Pairwise (fun p q => p.1 < q.1)

/-- A tuple in the card FIFO, as the five words its registers read (spec/20_memory.md R66, R67): the bits the rules
ignore are whatever the card has there. -/
structure CardTuple where
  utcHi    : Word
  utcLo    : Word
  coarse   : Word
  frac     : Word
  metaWord : Word
deriving DecidableEq, Repr

/-- One downstream transaction (spec/20_memory.md R65): a `read32` of an address with its answer, or a `write32` of an
address with its datum. -/
inductive Txn where
  | read32 (addr : BitVec Config.addrW) (v : Word)
  | write32 (addr : BitVec Config.addrW) (v : Word)
deriving DecidableEq, Repr

/-- The transaction of `DRead(r)` (spec/20_memory.md R65): `read32(DownstreamMap(r))`, answered v. -/
def Txn.read (r : ReadReg) (v : Word) : Txn := .read32 (Config.downstreamMap (.rd r)) v

/-- The transaction of `DWrite(r, v)` (spec/20_memory.md R65): `write32(DownstreamMap(r), v)`. -/
def Txn.write (r : WriteReg) (v : Word) : Txn := .write32 (Config.downstreamMap (.wr r)) v

/-- One atomic step of the interleaving (spec/00_scope.md R12, spec/20_memory.md R73): which agent steps, and with what
from outside. Log 1. The environment agents are the three of spec/00_scope.md R12 (ENV_FIFO, ENV_TICK, ENV_COMP), although
spec/60_exceptions.md R254 counts four: DESIGN CHOICE, log 28. `envInputs`, `envTdc` and `envFifoCsr` are no agents: they
settle the environment's answers to later reads (log 7, log 8, log 13). -/
inductive Event where
  /-- HOST reads 32 bits at a byte offset. -/
  | hostRead (off : Nat)
  /-- HOST writes 32 bits at a byte offset. -/
  | hostWrite (off : Nat) (v : Word)
  | drainer
  | deliverer
  | calibrator
  | lifecycle
  /-- ENV_FIFO appends a tuple to the card FIFO. -/
  | envFifo (t : CardTuple)
  /-- ENV_TICK. -/
  | envTick
  /-- ENV_COMP takes the calibration lock. -/
  | compAcquire
  /-- ENV_COMP frees the calibration lock. -/
  | compRelease
  /-- ENV_COMP writes a channel's delay register. -/
  | compWrite (ch : Chan) (v : Word)
  /-- The inputs `SELFTEST_OK` and `TEMP` take new levels. -/
  | envInputs (selftestOk : Bool) (temp : BitVec 16)
  /-- The environment settles one more answer to a TDC read. -/
  | envTdc (v : Word)
  /-- The environment settles bits [31:1] of the answers to the next `FIFO_CSR` reads. -/
  | envFifoCsr (rest : BitVec 31)
  /-- Reset (spec/70_reset_and_hazards.md R267). -/
  | reset
deriving DecidableEq, Repr

/-- The TimeValue operand registers (spec/10_state.md R31, R32). -/
structure TvuRegs where
  a     : TimeValue
  b     : TimeValue
  r     : TimeValue
  psIn  : BitVec 64
  psOut : BitVec 64
deriving DecidableEq, Repr

/-- The configuration registers the host writes (spec/10_state.md R33, R35, R36, R37, R40, R41, R42). -/
structure HostCfg where
  rbCap      : Word
  capMode    : Bool
  pollMs     : Word
  zeroOff    : Quad (BitVec 64)
  userOff    : Quad (BitVec 64)
  calN       : Word
  scaleNum   : Word
  scaleDen   : Word
  binFp      : Word
  waitMax    : Word
  polyC0     : BitVec 64
  polyC1     : BitVec 64
  polyC2     : BitVec 64
  compPeriod : Word
deriving DecidableEq, Repr

/-- The ring (spec/41_ringbuffer.md R131). `head` and `tail` outlive the storage, since `RB_HEAD` and `RB_TAIL` go on
reading them (spec/10_state.md R34). `ret` is the MODEL's own: the value the last ring operation returned (log 11). -/
structure Ring where
  cap   : Option (BitVec 64)
  slots : Memory
  head  : BitVec 64
  tail  : BitVec 64
  ret   : RingReturn
deriving DecidableEq, Repr

/-- The capture state (spec/10_state.md R34, R44) and the output stream (spec/42_capture.md R157). -/
structure Capture where
  mode      : CapMode
  dr        : DrState
  drCtx     : CapMode
  drPushed  : BitVec 64
  ready     : Bool
  dropped   : BitVec 64
  lost      : BitVec 64
  lastValid : Bool
  lastSeq   : BitVec 16
  delivered : BitVec 64
  out       : List OutRec
deriving DecidableEq, Repr

/-- `RES_TAP`, `RES_OFFSET`, `RES_DELAY` of one channel (spec/10_state.md R43). -/
structure CalResult where
  valid  : Bool
  tap    : BitVec 16
  offset : BitVec 32
  delay  : BitVec 64
deriving DecidableEq, Repr

/-- The calibrator (spec/10_state.md R38, R39, R43, R44). A CSR that shows a working register is a view of it: `CAL_LOW`
of `low`, `CAL_HIGH` of `high`, `CAL_BIAS` of `bias`, `CAL_MIN`/`CAL_MAX` of `runMin`/`runMax`, `CAL_SHOT` of `curTap`
and `shotCount` (log 16). -/
structure Calibrator where
  fsm       : CalFsm
  stateCh   : Chan
  err       : ErrCode
  low       : BitVec 16
  high      : BitVec 16
  iter      : BitVec 32
  bias      : BitVec 64
  runMin    : BitVec 64
  runMax    : BitVec 64
  shotCount : BitVec 16
  curTap    : BitVec 16
  res       : Quad CalResult
  nL        : Word
  numL      : Word
  denL      : Word
  binL      : Word
  waitL     : Word
  c0L       : BitVec 64
  c1L       : BitVec 64
  c2L       : BitVec 64
  calCh     : Chan
  phase     : CalPhase
  acc       : BitVec 64
  lowDelay  : BitVec 64
deriving DecidableEq, Repr

/-- The lifecycle state and the calibration lock (spec/10_state.md R27, R44, R49, R50). -/
structure Lifecycle where
  dev     : DevState
  phase   : LcPhase
  fatal   : Bool
  compRun : Bool
  lock    : LockState
deriving DecidableEq, Repr

/-- The sticky status bits that `STATUS_CLR` clears (spec/10_state.md R27, R28). -/
structure Sticky where
  ovf       : Bool
  normRange : Bool
  chRange   : Bool
  busErr    : Bool
  rbOvf     : Bool
deriving DecidableEq, Repr

/-- The environment state behind the downstream port (spec/10_state.md R45, R47, R48; spec/20_memory.md R66 to R68).
`fifoCsrRest` is bits [31:1] of a `FIFO_CSR` answer, which the spec leaves open and which change by `Event.envFifoCsr`
alone (DESIGN CHOICE, log 13). `tdcDraws` holds the answers to the next reads of `TDC_STATUS` and `TDC_RESULT`, in the order of the reads (log 7). -/
structure Card where
  fifo        : List CardTuple
  fifoCsrRest : BitVec 31
  irqEn       : Bool
  irqPend     : Bool
  dlyTap      : Quad (BitVec 10)
  chCtrl      : Quad Word
  calArm      : Word
  tdcDraws    : List Word
  selftestOk  : Bool
  temp        : BitVec 16
deriving DecidableEq, Repr

/-- The machine. `rangeFault`, `hostRdata`, `port`, `drawCtr` and `sched` are the MODEL's own: that `Normalize` has left the
range since reset, the fault spec/40_timevalue.md R115 asks a model to take (log 4), the data of the last host read (log 12),
the downstream transactions performed so far, oldest first (log 12), the number of free downstream answers drawn so far
(log 7), and the interleaving still to come (log 1). -/
structure State where
  cmd        : Word
  errCode    : ErrCode
  errOp      : BitVec 8
  sticky     : Sticky
  tvu        : TvuRegs
  cfg        : HostCfg
  ring       : Ring
  capt       : Capture
  cal        : Calibrator
  life       : Lifecycle
  card       : Card
  rangeFault : Bool
  hostRdata  : Word
  port       : List Txn
  drawCtr    : Nat
  sched      : List Event
deriving DecidableEq, Repr

/-- Why a step stops. Every one is safe: the model stops in a state that no run from reset reaches, where the spec gives
no effect or asks a model to fault (log 14). -/
inductive Fault where
  /-- A pop read a slot no push has written: "A model that reads one must fault" (spec/10_state.md R51). Raised by
  `rb.pop` and `cap.deliver`. Safe. -/
  | unwrittenSlot
  /-- A push or a pop where no ring storage exists (spec/41_ringbuffer.md R139). Raised by `rb.push`, `rb.pop`,
  `cap.drain_step` and `cap.deliver`. Safe. -/
  | ringAbsent
  /-- A division by zero, which spec/00_scope.md R10 does not define: `n_l = 0` in `cal.point`, `den_l = 0` in
  `cal.shot`. Safe. -/
  | divideByZero
  /-- `cap.deliver` popped a sample outside `Normalize`'s domain (spec/40_timevalue.md R111). Safe. -/
  | sampleDomain
deriving DecidableEq, Repr

/-- Why an instruction has no meaning. -/
inductive Refusal where
  /-- The instruction has no meaning in this model yet. Raised by no arm: every row of the table has its meaning. Safe. -/
  | notModelled (mnemonic : String)
deriving DecidableEq, Repr

/-- The same value for every channel. -/
def Quad.all {α : Type} (x : α) : Quad α := ⟨x, x, x, x⟩

/-- A CalibrationResult of zeros, `VALID` 0 (spec/10_state.md R43). -/
def CalResult.zero : CalResult := ⟨false, 0#16, 0#32, 0#64⟩

/-- The card as spec/70_reset_and_hazards.md R268 starts it: an empty FIFO, `IRQ_EN = 0` and `IRQ_PEND = 0`. The rest is
any value there; DESIGN CHOICE zeros, unsafe: log 8, log 9. -/
def Card.initial : Card where
  fifo := []
  fifoCsrRest := 0#31
  irqEn := false
  irqPend := false
  dlyTap := .all 0#10
  chCtrl := .all 0#32
  calArm := 0#32
  tdcDraws := []
  selftestOk := false
  temp := 0#16

/-- The state after reset of a block whose parameters include the reset values p (spec/00_scope.md R8): the table of
spec/70_reset_and_hazards.md R266, with the card of R268. The model's own fields are empty (log 1, log 7, log 11,
log 12). -/
def State.resetWith (p : ResetValues) : State where
  cmd := 0#32
  errCode := .ok
  errOp := 0#8
  sticky := ⟨false, false, false, false, false⟩
  tvu := ⟨TimeValue.zero, TimeValue.zero, TimeValue.zero, 0#64, 0#64⟩
  cfg :=
    { rbCap := 0#32
      capMode := false
      pollMs := p.pollMs
      zeroOff := .all 0#64
      userOff := .all 0#64
      calN := 0#32
      scaleNum := p.scaleNum
      scaleDen := p.scaleDen
      binFp := 0#32
      waitMax := p.waitMax
      polyC0 := 0#64
      polyC1 := 0#64
      polyC2 := 0#64
      compPeriod := p.compPeriod }
  ring := ⟨none, [], 0#64, 0#64, .none⟩
  capt :=
    { mode := .poll
      dr := .idle
      drCtx := .poll
      drPushed := 0#64
      ready := false
      dropped := 0#64
      lost := 0#64
      lastValid := false
      lastSeq := 0#16
      delivered := 0#64
      out := [] }
  cal :=
    { fsm := .idle
      stateCh := .ch0
      err := .ok
      low := 0#16
      high := 0#16
      iter := 0#32
      bias := 0#64
      runMin := 0#64
      runMax := 0#64
      shotCount := 0#16
      curTap := 0#16
      res := .all CalResult.zero
      nL := 0#32
      numL := 0#32
      denL := 0#32
      binL := 0#32
      waitL := 0#32
      c0L := 0#64
      c1L := 0#64
      c2L := 0#64
      calCh := .ch0
      phase := .none
      acc := 0#64
      lowDelay := 0#64 }
  life := ⟨.closed, .none, false, false, .free⟩
  card := Card.initial
  rangeFault := false
  hostRdata := 0#32
  port := []
  drawCtr := 0
  sched := []

/-- The state after reset, at the block's own reset values (log 5). -/
def State.reset : State := State.resetWith Config.resetValues

end Sys2Proof.Machine
end

