-- ==== Sys2Proof/Machine/Flags.lean ====
section
/-! DEFINITION. Every flag computation of the spec: the wraps and their overflow outputs (spec/00_scope.md R10,
spec/40_timevalue.md R112, spec/43_calibrator.md R193), the sticky bits (spec/10_state.md R27, R28), the live status bits,
and the record flags (spec/30_encoding.md R94). -/

namespace Sys2Proof.Machine

/-- `wrap_s64` (spec/00_scope.md R10). -/
def wrapS64 (z : Int) : BitVec 64 := BitVec.ofInt 64 z

/-- The exact value is outside `s64` (spec/40_timevalue.md R112). -/
def outsideS64 (z : Int) : Bool := decide (z < -9223372036854775808) || decide (9223372036854775808 ≤ z)

/-- `wrap_s32` (spec/00_scope.md R10). -/
def wrapS32 (z : Int) : BitVec 32 := BitVec.ofInt 32 z

/-- The exact value is outside `s32` (spec/43_calibrator.md R193). -/
def outsideS32 (z : Int) : Bool := decide (z < -2147483648) || decide (2147483648 ≤ z)

/-- `if b: set_sticky(ST_OVF)`. -/
def State.noteOvf (b : Bool) (s : State) : State :=
  { s with sticky := { s.sticky with ovf := s.sticky.ovf || b } }

/-- `if nr: set_sticky(ST_NORMRANGE)`, and the model takes the fault of spec/40_timevalue.md R115: the block goes on with
the flagged value, and the fault stays recorded until reset (log 4). -/
def State.noteNormRange (b : Bool) (s : State) : State :=
  { s with sticky := { s.sticky with normRange := s.sticky.normRange || b }, rangeFault := s.rangeFault || b }

/-- `if b: set_sticky(ST_CHRANGE)`. -/
def State.noteChRange (b : Bool) (s : State) : State :=
  { s with sticky := { s.sticky with chRange := s.sticky.chRange || b } }

/-- `set_sticky(ST_BUSERR)`. -/
def State.noteBusErr (s : State) : State :=
  { s with sticky := { s.sticky with busErr := true } }

/-- `set_sticky(ST_RBOVF)`. -/
def State.noteRbOvf (s : State) : State :=
  { s with sticky := { s.sticky with rbOvf := true } }

/-- A host write of w to `STATUS_CLR`: each sticky bit k in 8..12 with `w[k] = 1` becomes 0 (spec/10_state.md R28). -/
def Sticky.clear (w : Word) (f : Sticky) : Sticky where
  ovf := f.ovf && !w.getLsbD 8
  normRange := f.normRange && !w.getLsbD 9
  chRange := f.chRange && !w.getLsbD 10
  busErr := f.busErr && !w.getLsbD 11
  rbOvf := f.rbOvf && !w.getLsbD 12

/-- The encodings of `DEV_STATE` (spec/10_state.md R27). -/
def DevState.bits : DevState → BitVec 2
  | .closed => 0#2
  | .opened => 1#2
  | .closing => 2#2

/-- The encodings of `LOCK` (spec/10_state.md R49). -/
def LockState.bits : LockState → BitVec 2
  | .free => 0#2
  | .cal => 1#2
  | .comp => 2#2

/-- The encodings of `CAL_STATE.STATE` (spec/10_state.md R38). -/
def CalFsm.bits : CalFsm → BitVec 2
  | .idle => 0#2
  | .measuringBias => 1#2
  | .binarySearching => 2#2
  | .converged => 3#2

/-- The numeric error codes (spec/60_exceptions.md R236). -/
def ErrCode.bits : ErrCode → BitVec 8
  | .ok => 0x00#8
  | .config => 0x01#8
  | .hwFault => 0x02#8
  | .overflow => 0x03#8
  | .timeout => 0x04#8
  | .domain => 0x05#8
  | .illegal => 0x06#8
  | .busy => 0x07#8
  | .state => 0x08#8
  | .measFail => 0x09#8

/-- A calibration run is in progress: `CAL_STATE.STATE` in {1, 2}, which is `CAL_RUNNING` (spec/10_state.md R27). -/
def Calibrator.running (c : Calibrator) : Bool :=
  match c.fsm with
  | .idle => false
  | .measuringBias => true
  | .binarySearching => true
  | .converged => false

/-- `DRAINING`: 1 while `DR_STATE` is not IDLE (spec/10_state.md R27). -/
def Capture.draining (c : Capture) : Bool := c.dr != .idle

/-- `STATUS` (spec/10_state.md R27), bits 31 down to 0. -/
def statusWord (s : State) : Word :=
  0#17 ++ BitVec.ofBool (s.capt.mode == .irq) ++ BitVec.ofBool s.life.compRun
    ++ BitVec.ofBool s.sticky.rbOvf ++ BitVec.ofBool s.sticky.busErr ++ BitVec.ofBool s.sticky.chRange
    ++ BitVec.ofBool s.sticky.normRange ++ BitVec.ofBool s.sticky.ovf
    ++ BitVec.ofBool s.capt.draining ++ s.life.lock.bits ++ BitVec.ofBool s.cal.running
    ++ BitVec.ofBool s.life.fatal ++ BitVec.ofBool s.capt.ready ++ s.life.dev.bits

/-- The `flags` of an OutRec: [0] NR, [1] CR, [2] OV, [7:3] 0 (spec/30_encoding.md R94). -/
def recordFlags (nr cr ov : Bool) : BitVec 8 :=
  0#5 ++ BitVec.ofBool ov ++ BitVec.ofBool cr ++ BitVec.ofBool nr

/-- The gap before a sample of sequence number `seq` (spec/42_capture.md R154), modulo 65536. -/
def seqGap (lastValid : Bool) (lastSeq seq : BitVec 16) : BitVec 16 :=
  if lastValid then seq - lastSeq - 1#16 else 0#16

end Sys2Proof.Machine
end

