-- ==== Sys2Proof/Machine/Operands.lean ====
section
/-! DEFINITION. Every operand form of the spec: 64-bit pairs of CSR words (spec/30_encoding.md R92), TimeValue operands
from their words (R91), channels (R89), the domains of the TimeValue functions (spec/40_timevalue.md R111), per-channel
registers, and the fields of card registers (spec/20_memory.md R66, R67). -/

namespace Sys2Proof.Machine

/-- bits[31:0] of a 64-bit register, the word at the lower offset (spec/20_memory.md R64). -/
def loWord (v : BitVec 64) : Word := v.extractLsb' 0 32

/-- bits[63:32] of a 64-bit register, the word at the next offset (spec/20_memory.md R64). -/
def hiWord (v : BitVec 64) : Word := v.extractLsb' 32 32

/-- `HI ++ LO` (spec/30_encoding.md R92). -/
def pairWord (hi lo : Word) : BitVec 64 := hi ++ lo

/-- A 64-bit register after a host write of its low word. -/
def withLo (v : BitVec 64) (w : Word) : BitVec 64 := pairWord (hiWord v) w

/-- A 64-bit register after a host write of its high word. -/
def withHi (v : BitVec 64) (w : Word) : BitVec 64 := pairWord w (loWord v)

/-- The `*_META` word of a TimeValue: [15:0] seq, [23:16] channel (spec/10_state.md R31). -/
def metaOf (t : TimeValue) : Word := 0#8 ++ t.channel ++ t.seq

/-- The `*_FRAC` word of a TimeValue (spec/10_state.md R31). -/
def fracWord (t : TimeValue) : Word := t.frac.setWidth 32

/-- A TimeValue is normalized (spec/40_timevalue.md R111). -/
def isNormalized (t : TimeValue) : Bool :=
  decide (t.coarse.toNat < Config.coarseMod) && decide (t.frac.toNat < Config.fracMod)

/-- A number is a power of two: 0 is none (spec/43_calibrator.md R180). -/
def isPow2 (k : Nat) : Bool := decide (2 ^ k.log2 = k)

/-- The register of a channel. -/
def Quad.get {α : Type} (q : Quad α) : Chan → α
  | .ch0 => q.c0
  | .ch1 => q.c1
  | .ch2 => q.c2
  | .ch3 => q.c3

/-- The registers with that of one channel replaced. -/
def Quad.set {α : Type} (q : Quad α) (ch : Chan) (x : α) : Quad α :=
  match ch with
  | .ch0 => { q with c0 := x }
  | .ch1 => { q with c1 := x }
  | .ch2 => { q with c2 := x }
  | .ch3 => { q with c3 := x }

/-- The 2-bit `CH` field of a channel (spec/10_state.md R38). -/
def chanBits (ch : Chan) : BitVec 2 := BitVec.ofNat 2 ch.toNat

/-- The RawSample of a tuple's five words (spec/20_memory.md R67): the bits above each field are ignored. -/
def CardTuple.sample (t : CardTuple) : RawSample where
  utc := pairWord t.utcHi t.utcLo
  coarse := (t.coarse.extractLsb' 0 28).setWidth 32
  frac := (t.frac.extractLsb' 0 12).setWidth 16
  channel := t.metaWord.extractLsb' 16 8
  seq := t.metaWord.extractLsb' 0 16

/-- The raw 17-bit result in a `TDC_RESULT` word (spec/20_memory.md R66). -/
def tdcRaw (w : Word) : BitVec 17 := w.extractLsb' 0 17

end Sys2Proof.Machine
end

