-- ==== Sys2Proof/Machine/TimeArith.lean ====
section
/-! DEFINITION. The pure functions of spec/40_timevalue.md (`Normalize`, `Add`, `Sub`, `P2T`, `T2P`) and of
spec/43_calibrator.md (`ToPs`, `Poly`, `FitOffset`): computed in ℤ, then wrapped. -/

namespace Sys2Proof.Machine

/-- What `Normalize`, `Add` and `Sub` return: the TimeValue, the overflow bit, and `Normalize`'s range bit. -/
structure TimeResult where
  val : TimeValue
  ov  : Bool
  nr  : Bool
deriving DecidableEq, Repr

/-- The coarse and utc `Normalize` gives a raw coarse count (spec/40_timevalue.md R114): the first branch is the "small
negative excursion" of bit 27, the second a count of a second or more. -/
def normalizeCoarse (c : Nat) (u : Int) : Nat × Int :=
  if 2 ^ 27 ≤ c then ((c + Config.coarseMod) % 2 ^ 28, u - 1)
  else if Config.coarseMod ≤ c then (c - Config.coarseMod, u + 1)
  else (c, u)

/-- `Normalize(x)` for a raw operand (spec/40_timevalue.md R114, R115). On a raw operand bit 27 is set exactly when the
coarse count is 2^27 or more. -/
def timeNormalize (x : TimeValue) : TimeResult :=
  let r := normalizeCoarse x.coarse.toNat x.utc.toInt
  { val := { x with utc := wrapS64 r.2, coarse := BitVec.ofNat 32 r.1 }
    ov := outsideS64 r.2
    nr := decide (Config.coarseMod ≤ r.1) }

/-- A sum of two fields below `m`, with its carry (spec/40_timevalue.md R117). -/
def carry (m z : Nat) : Nat × Nat := if m ≤ z then (z - m, 1) else (z, 0)

/-- `Add(a, b)` for normalized operands (spec/40_timevalue.md R117); channel and seq are a's (R113). -/
def timeAdd (a b : TimeValue) : TimeResult :=
  let f := carry Config.fracMod (a.frac.toNat + b.frac.toNat)
  let c := carry Config.coarseMod (a.coarse.toNat + b.coarse.toNat + f.2)
  let u : Int := a.utc.toInt + b.utc.toInt + c.2
  { val := { a with utc := wrapS64 u, coarse := BitVec.ofNat 32 c.1, frac := BitVec.ofNat 16 f.1 }
    ov := outsideS64 u
    nr := false }

/-- A difference of two fields, brought into range by a borrow of `m` (spec/40_timevalue.md R119). -/
def borrow (m : Nat) (z : Int) : Int × Int := if z < 0 then (z + m, 1) else (z, 0)

/-- `Sub(a, b)` for normalized operands (spec/40_timevalue.md R119); channel and seq are a's (R113). -/
def timeSub (a b : TimeValue) : TimeResult :=
  let f := borrow Config.fracMod ((a.frac.toNat : Int) - b.frac.toNat)
  let c := borrow Config.coarseMod ((a.coarse.toNat : Int) - b.coarse.toNat - f.2)
  let u : Int := a.utc.toInt - b.utc.toInt - c.2
  { val := { a with utc := wrapS64 u, coarse := BitVec.ofInt 32 c.1, frac := BitVec.ofInt 16 f.1 }
    ov := outsideS64 u
    nr := false }

/-- `P2T(ps)` (spec/40_timevalue.md R121): floor division, channel and seq 0 (R113). Lean's `/` and `%` on ℤ by a positive
divisor are floor division and its non-negative remainder. -/
def picoToTime (ps : BitVec 64) : TimeValue :=
  let ct := ps.toInt / Config.psPerCycle
  let r := ps.toInt % Config.psPerCycle
  { utc := wrapS64 (ct / Config.coarseMod)
    coarse := BitVec.ofInt 32 (ct % Config.coarseMod)
    frac := BitVec.ofInt 16 (r * Config.fracMod / Config.psPerCycle)
    channel := 0#8
    seq := 0#16 }

/-- The exact value of `T2P(t)` (spec/40_timevalue.md R123). -/
def timeToPicoExact (t : TimeValue) : Int :=
  t.utc.toInt * Config.psPerSec + t.coarse.toNat * Config.psPerCycle
    + ((t.frac.toNat * Config.psPerCycle / Config.fracMod : Nat) : Int)

/-- The exact value of `ToPs(raw)` with the latched scale and bin (spec/43_calibrator.md R178); the divisor is not 0. -/
def toPsExact (num den bin : Word) (raw : BitVec 17) : Int :=
  ((raw.toNat * num.toNat * bin.toNat / (den.toNat * 65536) : Nat) : Int)

/-- `Poly(t)` with the latched coefficients (spec/43_calibrator.md R179). -/
def polyTap (c0 c1 c2 : BitVec 64) (t : BitVec 16) : Int :=
  (c0.toInt * t.toInt * t.toInt + c1.toInt * t.toInt + c2.toInt) / 4294967296

/-- The exact value of `FitOffset(tap, p)` (spec/43_calibrator.md R193). -/
def fitOffsetExact (tap : BitVec 16) (p : Int) : Int := (tap.toNat : Int) - p

end Sys2Proof.Machine
end

