-- ==== Sys2Proof/Machine/Ops.lean ====
section
/-! DEFINITION. The named operations over memory and registers: the ring storage and the ring operations
(spec/41_ringbuffer.md), the downstream port (spec/20_memory.md R65 to R68), raising an error (spec/60_exceptions.md R237)
and the fatal fault (R240, spec/44_device.md R221). The block has no trap entry and no return from one (R251): raising an
error is the one shared "exception" operation. -/

namespace Sys2Proof.Machine

/-! ## Outcomes -/

/-- The outcome of a step that completes. -/
abbrev Result := Host.Outcome State Fault Refusal

/-- `hold`: the agent has no enabled step, so nothing changes (spec/00_scope.md R11, log 2). -/
def hold (s : State) : Result := .next s

/-! ## Errors -/

/-- `ERR <- {CODE, OP}` (spec/10_state.md R29, spec/60_exceptions.md R237). -/
def State.setErr (code : ErrCode) (op : BitVec 8) (s : State) : State :=
  { s with errCode := code, errOp := op }

/-- A command that succeeds: `ERR.CODE` is 0x00 (spec/60_exceptions.md R237). -/
def complete (op : BitVec 8) (s : State) : Result := .next (s.setErr .ok op)

/-- `raise E()`: taking an error. Nothing but `ERR` changes (spec/60_exceptions.md R237); what `HW_FAULT` adds is
`State.fatalTeardown`. -/
def raise (code : ErrCode) (op : BitVec 8) (s : State) : Result := .next (s.setErr code op)

/-- The fatal teardown (spec/44_device.md R221): `FATAL`, and an OPEN device starts to close. -/
def State.fatalTeardown (s : State) : State :=
  match s.life.dev with
  | .opened => { s with life := { s.life with fatal := true, dev := .closing, phase := .stopCapture } }
  | .closed => { s with life := { s.life with fatal := true } }
  | .closing => { s with life := { s.life with fatal := true } }

/-- A word that decodes to no command (spec/60_exceptions.md R244): `ERR <- {0x06, w[7:0]}` and nothing else. -/
def State.illegal (w : Word) (s : State) : State := s.setErr .illegal (wordOpc w)

/-! ## The ring storage -/

/-- The sample a slot holds; none for a slot that no push has written (spec/10_state.md R51). -/
def Memory.read : Memory → Nat → Option RawSample
  | [], _ => none
  | p :: m, i => if p.1 = i then some p.2 else Memory.read m i

/-- The storage with one slot written, kept in canonical form. -/
def Memory.write : Memory → Nat → RawSample → Memory
  | [], i, x => [(i, x)]
  | p :: m, i, x =>
    if i < p.1 then (i, x) :: p :: m
    else if i = p.1 then (i, x) :: m
    else p :: Memory.write m i x

/-- Slot index = counter mod cap (spec/41_ringbuffer.md R131). -/
def slotIndex (counter cap : BitVec 64) : Nat := counter.toNat % cap.toNat

/-- `(head - tail) mod 2^64`, the occupancy (spec/41_ringbuffer.md R138). -/
def Ring.occupancy (r : Ring) : BitVec 64 := r.head - r.tail

/-- The capacity, while storage exists (spec/41_ringbuffer.md R139). A capacity of 0 is no storage: R132 accepts none. -/
def Ring.storage? (r : Ring) : Option (BitVec 64) :=
  match r.cap with
  | none => none
  | some c => if c = 0#64 then none else some c

/-- `rb.new(k)` accepts k: a power of two, at least 2, at most 2^RB_CAP_MAX_LOG2 (spec/41_ringbuffer.md R132). -/
def ringCapOk (k : Word) : Bool :=
  isPow2 k.toNat && decide (2 ≤ k.toNat) && decide (k.toNat ≤ 2 ^ Config.rbCapMaxLog2)

/-- `rb.new(k)` for an accepted k (spec/41_ringbuffer.md R132): `cap <- k; head <- 0; tail <- 0`, every slot unwritten. -/
def State.ringNew (k : Word) (s : State) : State :=
  { s with ring := { s.ring with cap := some (k.setWidth 64), slots := [], head := 0#64, tail := 0#64 } }

/-- The ring after `rb.push(x)` into storage of capacity `c` (spec/41_ringbuffer.md R133), with what it returns. -/
def Ring.push (c : BitVec 64) (x : RawSample) (r : Ring) : Ring :=
  let head := r.head + 1#64
  let slots := Memory.write r.slots (slotIndex r.head c) x
  if c ≤ head - r.tail then
    { r with slots := slots, head := head, tail := r.tail + c / 2#64, ret := .overflow (c / 2#64) }
  else { r with slots := slots, head := head, ret := .ok }

/-- Overflow handling (spec/41_ringbuffer.md R134): the drop count goes to `DROPPED` and `ST_RBOVF` is set. -/
def State.noteDrop (s : State) : State :=
  match s.ring.ret with
  | .overflow d => ({ s with capt := { s.capt with dropped := s.capt.dropped + d } } : State).noteRbOvf
  | .none => s
  | .ok => s
  | .empty => s
  | .sample _ => s

/-- `rb.push(x)` with its overflow handling, one atomic step over the ring (spec/41_ringbuffer.md R133, R134); none where
no storage exists (R139). -/
def State.ringPush? (x : RawSample) (s : State) : Option State :=
  match s.ring.storage? with
  | none => none
  | some c => some ({ s with ring := s.ring.push c x } : State).noteDrop

/-- What `rb.pop` finds (spec/41_ringbuffer.md R136). -/
inductive PopResult where
  | absent
  | empty (r : Ring)
  | unwritten
  | sample (x : RawSample) (r : Ring)
deriving DecidableEq, Repr

/-- `rb.pop()`, one atomic step over the ring (spec/41_ringbuffer.md R136), with the ring it leaves. -/
def Ring.pop (r : Ring) : PopResult :=
  match r.storage? with
  | none => .absent
  | some c =>
    if r.tail = r.head then .empty { r with ret := .empty }
    else
      match Memory.read r.slots (slotIndex r.tail c) with
      | none => .unwritten
      | some x => .sample x { r with tail := r.tail + 1#64, ret := .sample x }

/-! ## The downstream port -/

/-- One transaction is performed: it is appended to the record of the port (spec/20_memory.md R76, log 12). -/
def State.logTxn (t : Txn) (s : State) : State := { s with port := s.port ++ [t] }

/-- The environment's next free answer (spec/10_state.md R47, log 7, log 13). -/
def State.freeDraw (s : State) : Word × State :=
  (Config.downstreamDraw s.drawCtr, { s with drawCtr := s.drawCtr + 1 })

/-- A field of the card FIFO's head tuple; any word while the FIFO is empty (spec/20_memory.md R67, log 13). -/
def State.headField (field : CardTuple → Word) (s : State) : Word × State :=
  match s.card.fifo with
  | t :: _ => (field t, s)
  | [] => s.freeDraw

/-- The environment's answer to a TDC read: the next listed draw, else a free one (spec/10_state.md R47, log 7). -/
def State.tdcDraw (s : State) : Word × State :=
  match s.card.tdcDraws with
  | w :: rest => (w, { s with card := { s.card with tdcDraws := rest } })
  | [] => s.freeDraw

/-- The head tuple leaves the card FIFO (spec/20_memory.md R67). -/
def State.popCard (s : State) : State :=
  { s with card := { s.card with fifo := s.card.fifo.tail } }

/-- What the environment answers to a downstream read, and what the read does to the card (spec/20_memory.md R66, R67,
R69). Bits [31:1] of the `FIFO_CSR` answer, which R66 leaves open, are the card's and stay until the environment changes
them (DESIGN CHOICE, log 13). -/
def State.cardAnswer (r : ReadReg) (s : State) : Word × State :=
  match r with
  | .fifoCsr => (s.card.fifoCsrRest ++ BitVec.ofBool s.card.fifo.isEmpty, s)
  | .fifoUtcHi => s.headField CardTuple.utcHi
  | .fifoUtcLo => s.headField CardTuple.utcLo
  | .fifoCoarse => s.headField CardTuple.coarse
  | .fifoFrac => s.headField CardTuple.frac
  | .fifoMeta => ((s.headField CardTuple.metaWord).1, (s.headField CardTuple.metaWord).2.popCard)
  | .tdcStatus => s.tdcDraw
  | .tdcResult => s.tdcDraw

/-- `DRead(r)` (spec/20_memory.md R65): one `read32` at `DownstreamMap(r)`, and the environment's answer. -/
def State.dread (r : ReadReg) (s : State) : Word × State :=
  let a := s.cardAnswer r
  (a.1, a.2.logTxn (.read r a.1))

/-- What a downstream write does to the card (spec/20_memory.md R66, R68). -/
def Card.written (r : WriteReg) (v : Word) (c : Card) : Card :=
  match r with
  | .irqEn => if v.getLsbD 0 then { c with irqEn := true } else { c with irqEn := false, irqPend := false }
  | .irqAck => if v = 1#32 then { c with irqPend := false } else c
  | .chCtrl ch => { c with chCtrl := c.chCtrl.set ch v }
  | .calArm => { c with calArm := v }
  | .dlyTap ch => { c with dlyTap := c.dlyTap.set ch (v.extractLsb' 0 10) }
  | .tdcTrig => c
  | .calPulse => c

/-- `DWrite(r, v)` (spec/20_memory.md R65): one `write32` at `DownstreamMap(r)`, and its effect on the card. -/
def State.dwrite (r : WriteReg) (v : Word) (s : State) : State :=
  ({ s with card := s.card.written r v } : State).logTxn (.write r v)

/-- `ReadTuple()`: five downstream reads in the order of spec/20_memory.md R67, the last of which pops the card FIFO. -/
def State.readTuple (s : State) : RawSample × State :=
  let hi := s.dread .fifoUtcHi
  let lo := hi.2.dread .fifoUtcLo
  let c := lo.2.dread .fifoCoarse
  let f := c.2.dread .fifoFrac
  let m := f.2.dread .fifoMeta
  (CardTuple.sample ⟨hi.1, lo.1, c.1, f.1, m.1⟩, m.2)

/-! ## The output stream -/

/-- `emit(rec)` (spec/42_capture.md R157). -/
def State.emit (r : OutRec) (s : State) : State :=
  { s with capt := { s.capt with out := s.capt.out ++ [r] } }

end Sys2Proof.Machine
end

