-- ==== Sys2Proof/Machine/Csr.lean ====
section
/-! DEFINITION. The host CSR window (spec/10_state.md sections 2 to 6, spec/20_memory.md R61 to R64, R71): the registers by
name, their offsets, what a read returns, what a write does. -/

namespace Sys2Proof.Machine

/-- The word of a 64-bit register: LO is bits[31:0], HI bits[63:32] (spec/20_memory.md R64). -/
inductive Half where
  | lo
  | hi
deriving DecidableEq, Repr

/-- The words of an operand register set (spec/10_state.md R31). -/
inductive TvWord where
  | utc (h : Half)
  | coarse
  | frac
  | metaWord
deriving DecidableEq, Repr

/-- The registers of the CSR window. -/
inductive Csr where
  | id
  | cmd
  | status
  | err
  | statusClr
  | inputs
  | opA (w : TvWord)
  | opB (w : TvWord)
  | opR (w : TvWord)
  | psIn (h : Half)
  | psOut (h : Half)
  | rbCap
  | capMode
  | pollMs
  | rbFill
  | rbHead (h : Half)
  | rbTail (h : Half)
  | dropped (h : Half)
  | lost (h : Half)
  | lastSeq
  | delivered (h : Half)
  | zeroOff (ch : Chan) (h : Half)
  | userOff (ch : Chan) (h : Half)
  | calN
  | scaleNum
  | scaleDen
  | binFp
  | calState
  | calLow
  | calHigh
  | calIter
  | calBias (h : Half)
  | calMin (h : Half)
  | calMax (h : Half)
  | waitMax
  | calShot
  | polyC0 (h : Half)
  | polyC1 (h : Half)
  | polyC2 (h : Half)
  | compPeriod
  | resTap (ch : Chan)
  | resOffset (ch : Chan)
  | resDelay (ch : Chan) (h : Half)
deriving DecidableEq, Repr

/-- The offset of a word within its 64-bit register. -/
def Half.offset : Half → Nat
  | .lo => 0
  | .hi => 4

/-- The offset of a word within its register set (spec/10_state.md R31). -/
def TvWord.offset : TvWord → Nat
  | .utc h => h.offset
  | .coarse => 0x08
  | .frac => 0x0C
  | .metaWord => 0x10

/-- The byte offset of a register in the window (spec/10_state.md R24, R31 to R43). -/
def Csr.offset : Csr → Nat
  | .id => 0x000
  | .cmd => 0x004
  | .status => 0x008
  | .err => 0x00C
  | .statusClr => 0x010
  | .inputs => 0x014
  | .opA w => 0x020 + w.offset
  | .opB w => 0x040 + w.offset
  | .opR w => 0x060 + w.offset
  | .psIn h => 0x080 + h.offset
  | .psOut h => 0x088 + h.offset
  | .rbCap => 0x100
  | .capMode => 0x104
  | .pollMs => 0x108
  | .rbFill => 0x10C
  | .rbHead h => 0x110 + h.offset
  | .rbTail h => 0x118 + h.offset
  | .dropped h => 0x120 + h.offset
  | .lost h => 0x128 + h.offset
  | .lastSeq => 0x130
  | .delivered h => 0x134 + h.offset
  | .zeroOff ch h => 0x140 + 8 * ch.toNat + h.offset
  | .userOff ch h => 0x160 + 8 * ch.toNat + h.offset
  | .calN => 0x200
  | .scaleNum => 0x204
  | .scaleDen => 0x208
  | .binFp => 0x20C
  | .calState => 0x210
  | .calLow => 0x214
  | .calHigh => 0x218
  | .calIter => 0x21C
  | .calBias h => 0x220 + h.offset
  | .calMin h => 0x228 + h.offset
  | .calMax h => 0x230 + h.offset
  | .waitMax => 0x238
  | .calShot => 0x23C
  | .polyC0 h => 0x240 + h.offset
  | .polyC1 h => 0x248 + h.offset
  | .polyC2 h => 0x250 + h.offset
  | .compPeriod => 0x258
  | .resTap ch => 0x260 + 16 * ch.toNat
  | .resOffset ch => 0x264 + 16 * ch.toNat
  | .resDelay ch h => 0x268 + 16 * ch.toNat + h.offset

/-- The two words of a 64-bit register. -/
def csrPair (f : Half → Csr) : List Csr := [f .lo, f .hi]

/-- The five words of an operand register set. -/
def csrTime (f : TvWord → Csr) : List Csr :=
  [f (.utc .lo), f (.utc .hi), f .coarse, f .frac, f .metaWord]

/-- One register for each channel. -/
def csrChans (f : Chan → List Csr) : List Csr := f .ch0 ++ f .ch1 ++ f .ch2 ++ f .ch3

/-- The control block and the TimeValue unit (spec/10_state.md R24, R31, R32). -/
def csrControl : List Csr :=
  [.id, .cmd, .status, .err, .statusClr, .inputs] ++ csrTime .opA ++ csrTime .opB ++ csrTime .opR
    ++ csrPair .psIn ++ csrPair .psOut

/-- The capture registers (spec/10_state.md R33 to R35). -/
def csrCapture : List Csr :=
  [.rbCap, .capMode, .pollMs, .rbFill] ++ csrPair .rbHead ++ csrPair .rbTail ++ csrPair .dropped
    ++ csrPair .lost ++ [.lastSeq] ++ csrPair .delivered
    ++ csrChans (fun ch => csrPair (.zeroOff ch)) ++ csrChans (fun ch => csrPair (.userOff ch))

/-- The calibrator registers (spec/10_state.md R36 to R43). -/
def csrCalibrator : List Csr :=
  [.calN, .scaleNum, .scaleDen, .binFp, .calState, .calLow, .calHigh, .calIter] ++ csrPair .calBias
    ++ csrPair .calMin ++ csrPair .calMax ++ [.waitMax, .calShot] ++ csrPair .polyC0 ++ csrPair .polyC1
    ++ csrPair .polyC2 ++ [.compPeriod]
    ++ csrChans (fun ch => [.resTap ch, .resOffset ch] ++ csrPair (.resDelay ch))

/-- Every register of the window. -/
def csrAll : List Csr := csrControl ++ csrCapture ++ csrCalibrator

/-- The register at a byte offset; none for an access that is misaligned, outside the window or at a reserved offset
(spec/20_memory.md R63). -/
def csrAt (off : Nat) : Option Csr := csrAll.find? (fun r => r.offset = off)

/-- The word of a 64-bit register. -/
def halfOf (v : BitVec 64) : Half → Word
  | .lo => loWord v
  | .hi => hiWord v

/-- A 64-bit register after a host write of one of its words. -/
def withHalf (v : BitVec 64) (w : Word) : Half → BitVec 64
  | .lo => withLo v w
  | .hi => withHi v w

/-- The word of an operand register set (spec/10_state.md R31, spec/30_encoding.md R91). -/
def timeWord (t : TimeValue) : TvWord → Word
  | .utc h => halfOf t.utc h
  | .coarse => t.coarse
  | .frac => fracWord t
  | .metaWord => metaOf t

/-- An operand register set after a host write of one of its words; reserved bits are ignored (spec/10_state.md R23). -/
def withTimeWord (t : TimeValue) (w : Word) : TvWord → TimeValue
  | .utc h => { t with utc := withHalf t.utc w h }
  | .coarse => { t with coarse := w }
  | .frac => { t with frac := w.extractLsb' 0 16 }
  | .metaWord => { t with seq := w.extractLsb' 0 16, channel := w.extractLsb' 16 8 }

/-- `RB_FILL` (spec/10_state.md R34). -/
def ringFill (s : State) : Word :=
  match s.life.dev with
  | .closed => 0#32
  | .opened => s.ring.occupancy.setWidth 32
  | .closing => s.ring.occupancy.setWidth 32

/-- The value of a register (spec/10_state.md R23 to R43). Reading one has no side effect (spec/20_memory.md R69). -/
def readCsr (s : State) : Csr → Word
  | .id => Config.idValue
  | .cmd => s.cmd
  | .status => statusWord s
  | .err => 0#16 ++ s.errOp ++ s.errCode.bits
  | .statusClr => 0#32
  | .inputs => s.card.temp ++ 0#15 ++ BitVec.ofBool s.card.selftestOk
  | .opA w => timeWord s.tvu.a w
  | .opB w => timeWord s.tvu.b w
  | .opR w => timeWord s.tvu.r w
  | .psIn h => halfOf s.tvu.psIn h
  | .psOut h => halfOf s.tvu.psOut h
  | .rbCap => s.cfg.rbCap
  | .capMode => (BitVec.ofBool s.cfg.capMode).setWidth 32
  | .pollMs => s.cfg.pollMs
  | .rbFill => ringFill s
  | .rbHead h => halfOf s.ring.head h
  | .rbTail h => halfOf s.ring.tail h
  | .dropped h => halfOf s.capt.dropped h
  | .lost h => halfOf s.capt.lost h
  | .lastSeq => 0#15 ++ BitVec.ofBool s.capt.lastValid ++ s.capt.lastSeq
  | .delivered h => halfOf s.capt.delivered h
  | .zeroOff ch h => halfOf (s.cfg.zeroOff.get ch) h
  | .userOff ch h => halfOf (s.cfg.userOff.get ch) h
  | .calN => s.cfg.calN
  | .scaleNum => s.cfg.scaleNum
  | .scaleDen => s.cfg.scaleDen
  | .binFp => s.cfg.binFp
  | .calState => 0#16 ++ s.cal.err.bits ++ 0#4 ++ chanBits s.cal.stateCh ++ s.cal.fsm.bits
  | .calLow => s.cal.low.setWidth 32
  | .calHigh => s.cal.high.setWidth 32
  | .calIter => s.cal.iter
  | .calBias h => halfOf s.cal.bias h
  | .calMin h => halfOf s.cal.runMin h
  | .calMax h => halfOf s.cal.runMax h
  | .waitMax => s.cfg.waitMax
  | .calShot => s.cal.curTap ++ s.cal.shotCount
  | .polyC0 h => halfOf s.cfg.polyC0 h
  | .polyC1 h => halfOf s.cfg.polyC1 h
  | .polyC2 h => halfOf s.cfg.polyC2 h
  | .compPeriod => s.cfg.compPeriod
  | .resTap ch => BitVec.ofBool (s.cal.res.get ch).valid ++ 0#15 ++ (s.cal.res.get ch).tap
  | .resOffset ch => (s.cal.res.get ch).offset
  | .resDelay ch h => halfOf (s.cal.res.get ch).delay h

/-- What a host write of w to a register does, less the command that a write to `CMD` executes (spec/10_state.md R23,
R26, R28). A write to an `RO` register is ignored. -/
def writeCsr (s : State) (w : Word) : Csr → State
  | .id => s
  | .cmd => { s with cmd := w }
  | .status => s
  | .err => s
  | .statusClr => { s with sticky := s.sticky.clear w }
  | .inputs => s
  | .opA f => { s with tvu := { s.tvu with a := withTimeWord s.tvu.a w f } }
  | .opB f => { s with tvu := { s.tvu with b := withTimeWord s.tvu.b w f } }
  | .opR _ => s
  | .psIn h => { s with tvu := { s.tvu with psIn := withHalf s.tvu.psIn w h } }
  | .psOut _ => s
  | .rbCap => { s with cfg := { s.cfg with rbCap := w } }
  | .capMode => { s with cfg := { s.cfg with capMode := w.getLsbD 0 } }
  | .pollMs => { s with cfg := { s.cfg with pollMs := w } }
  | .rbFill => s
  | .rbHead _ => s
  | .rbTail _ => s
  | .dropped _ => s
  | .lost _ => s
  | .lastSeq => s
  | .delivered _ => s
  | .zeroOff ch h =>
    { s with cfg := { s.cfg with zeroOff := s.cfg.zeroOff.set ch (withHalf (s.cfg.zeroOff.get ch) w h) } }
  | .userOff ch h =>
    { s with cfg := { s.cfg with userOff := s.cfg.userOff.set ch (withHalf (s.cfg.userOff.get ch) w h) } }
  | .calN => { s with cfg := { s.cfg with calN := w } }
  | .scaleNum => { s with cfg := { s.cfg with scaleNum := w } }
  | .scaleDen => { s with cfg := { s.cfg with scaleDen := w } }
  | .binFp => { s with cfg := { s.cfg with binFp := w } }
  | .calState => s
  | .calLow => s
  | .calHigh => s
  | .calIter => s
  | .calBias _ => s
  | .calMin _ => s
  | .calMax _ => s
  | .waitMax => { s with cfg := { s.cfg with waitMax := w } }
  | .calShot => s
  | .polyC0 h => { s with cfg := { s.cfg with polyC0 := withHalf s.cfg.polyC0 w h } }
  | .polyC1 h => { s with cfg := { s.cfg with polyC1 := withHalf s.cfg.polyC1 w h } }
  | .polyC2 h => { s with cfg := { s.cfg with polyC2 := withHalf s.cfg.polyC2 w h } }
  | .compPeriod => { s with cfg := { s.cfg with compPeriod := w } }
  | .resTap _ => s
  | .resOffset _ => s
  | .resDelay _ _ => s

/-- A host read (spec/20_memory.md R62, R63): the word, or 0 and `ST_BUSERR` for a bus error. -/
def State.hostRead (off : Nat) (s : State) : State :=
  match csrAt off with
  | some r => { s with hostRdata := readCsr s r }
  | none => ({ s with hostRdata := 0#32 } : State).noteBusErr

end Sys2Proof.Machine
end

