-- ==== Sys2Proof/Machine/Agents.lean ====
section
/-! DEFINITION. What the next step of the machine is: the head of the schedule names an agent (spec/00_scope.md R12,
spec/20_memory.md R73), and the agent's state names the instruction it performs. This is the block's "fetch": it has no
program counter and fetches no instructions (spec/10_state.md R22). -/

namespace Sys2Proof.Machine

/-- What a step is: an instruction to run in a state, or a step that is finished already. -/
inductive Fetched where
  | run (i : Instr) (s : State)
  | done (s : State)
deriving DecidableEq, Repr

/-- A host write (spec/20_memory.md R62, R63; spec/10_state.md R26): a write to `CMD` stores the word and runs the command
it encodes, or reports ILLEGAL (spec/60_exceptions.md R244). -/
def hostWrite (off : Nat) (w : Word) (s : State) : Fetched :=
  match csrAt off with
  | none => .done s.noteBusErr
  | some r =>
    if r = .cmd then
      match decode w with
      | .ok i => .run i (writeCsr s w .cmd)
      | .error _ => .done ((writeCsr s w .cmd).illegal w)
    else .done (writeCsr s w r)

/-- The DRAINER's next operation (spec/30_encoding.md R95). -/
def drainerOp (s : State) : Instr :=
  match s.capt.dr with
  | .idle => .capIrq
  | .active => .capDrainStep
  | .finish => .capDrainFinish

/-- The CALIBRATOR's next operation (spec/30_encoding.md R95). -/
def calibratorOp (s : State) : Instr :=
  match s.cal.phase with
  | .fit => .calFit
  | .none => .calShot
  | .bias => if s.cal.shotCount.toNat < s.cal.nL.toNat then .calShot else .calPoint
  | .search => if s.cal.shotCount.toNat < s.cal.nL.toNat then .calShot else .calPoint

/-- The LIFECYCLE agent's next operation (spec/44_device.md R219). -/
def lifecycleOp (s : State) : Option Instr :=
  match s.life.phase with
  | .none => none
  | .stopCapture => some .lcStopCapture
  | .stopComp => some .lcStopComp
  | .release => some .lcRelease

/-- ENV_FIFO appends a tuple (spec/20_memory.md R68): the edge "FIFO not empty" sets `IRQ_PEND` while `IRQ_EN = 1`. -/
def Card.appendTuple (t : CardTuple) (c : Card) : Card :=
  { c with fifo := c.fifo ++ [t], irqPend := c.irqPend || (c.fifo.isEmpty && c.irqEn) }

/-- ENV_COMP takes the lock only when it is FREE and `COMP_RUN = 1` (spec/10_state.md R49); else nothing happens. -/
def State.compAcquire (s : State) : State :=
  if s.life.lock = .free ∧ s.life.compRun = true then { s with life := { s.life with lock := .comp } } else s

/-- ENV_COMP frees the lock it holds (spec/10_state.md R49). -/
def State.compRelease (s : State) : State :=
  if s.life.lock = .comp then { s with life := { s.life with lock := .free } } else s

/-- ENV_COMP writes a channel's delay register, only while it holds the lock (spec/10_state.md R49). The write is the
compensator's own: it is no transaction of the block's port (log 17). -/
def State.compWrite (ch : Chan) (w : Word) (s : State) : State :=
  if s.life.lock = .comp then { s with card := s.card.written (.dlyTap ch) w } else s

/-- Reset (spec/70_reset_and_hazards.md R267): the block's state becomes that of R266, in one step and with no downstream
transaction. The card, the record of the port, the bus data and the schedule are outside the block and stay (R268,
log 10). -/
def State.resetBlock (s : State) : State :=
  { State.reset with
    card := s.card, hostRdata := s.hostRdata, port := s.port, drawCtr := s.drawCtr, sched := s.sched }

/-- What an event makes of a state. -/
def eventStep (e : Event) (s : State) : Fetched :=
  match e with
  | .hostRead off => .done (s.hostRead off)
  | .hostWrite off w => hostWrite off w s
  | .drainer => .run (drainerOp s) s
  | .deliverer => .run .capDeliver s
  | .calibrator => .run (calibratorOp s) s
  | .lifecycle =>
    match lifecycleOp s with
    | some i => .run i s
    | none => .done s
  | .envFifo t => .done { s with card := s.card.appendTuple t }
  | .envTick => .run .capTick s
  | .compAcquire => .done s.compAcquire
  | .compRelease => .done s.compRelease
  | .compWrite ch w => .done (s.compWrite ch w)
  | .envInputs ok t => .done { s with card := { s.card with selftestOk := ok, temp := t } }
  | .envTdc w => .done { s with card := { s.card with tdcDraws := s.card.tdcDraws ++ [w] } }
  | .envFifoCsr b => .done { s with card := { s.card with fifoCsrRest := b } }
  | .reset => .done s.resetBlock

/-- The next step: the head of the schedule, taken off it; with an empty schedule no agent steps (log 1). -/
def fetch (s : State) : Fetched :=
  match s.sched with
  | [] => .done s
  | e :: rest => eventStep e { s with sched := rest }

end Sys2Proof.Machine
end

