-- ==== Sys2Proof/Machine/CalibratorUnit.lean ====
section
/-! DEFINITION. The delay calibrator (spec/43_calibrator.md): `cal.start`, and the shot, point and fit steps of a run. -/

namespace Sys2Proof.Machine

/-- `BeginPoint(tap)` (spec/43_calibrator.md R181). -/
def Calibrator.beginPoint (tap : BitVec 16) (c : Calibrator) : Calibrator :=
  { c with
    curTap := tap
    shotCount := 0#16
    acc := 0#64
    runMin := 0x7FFFFFFFFFFFFFFF#64
    runMax := 0x8000000000000000#64 }

/-- `mid = (low + high) div 2` (spec/43_calibrator.md R182). -/
def midTap (low high : BitVec 16) : BitVec 16 := BitVec.ofNat 16 ((low.toNat + high.toNat) / 2)

/-- The host configuration is one `cal.start` accepts: `CAL_N` a power of two in [1, 2^CAL_N_MAX_LOG2], and
`CAL_SCALE_DEN`, `CAL_BIN_FP`, `CAL_WAIT_MAX` not 0 (spec/43_calibrator.md R180, spec/60_exceptions.md R239). -/
def HostCfg.calOk (c : HostCfg) : Bool :=
  isPow2 c.calN.toNat && decide (c.calN.toNat ≤ 2 ^ Config.calNMaxLog2)
    && c.scaleDen != 0#32 && c.binFp != 0#32 && c.waitMax != 0#32

/-- The calibrator at the start of a run on a channel: the latch of spec/43_calibrator.md R177 and the assignments of
R180. -/
def Calibrator.started (cfg : HostCfg) (ch : Chan) (c : Calibrator) : Calibrator :=
  ({ c with
      nL := cfg.calN
      numL := cfg.scaleNum
      denL := cfg.scaleDen
      binL := cfg.binFp
      waitL := cfg.waitMax
      c0L := cfg.polyC0
      c1L := cfg.polyC1
      c2L := cfg.polyC2
      calCh := ch
      stateCh := ch
      err := .ok
      fsm := .measuringBias
      phase := .bias
      iter := 0#32
      low := 0#16
      high := 1023#16
      bias := 0#64 } : Calibrator).beginPoint 0#16

/-- `cal.start ch` (spec/43_calibrator.md R180), its checks in the precedence of spec/60_exceptions.md R238. -/
def execCalStart (ch : BitVec 4) (s : State) : Result :=
  if s.life.fatal = true ∨ s.life.dev ≠ .opened then raise .state opcCalStart s
  else if s.cal.running then raise .busy opcCalStart s
  else
    match Chan.ofNat? ch.toNat with
    | none => raise .config opcCalStart s
    | some c =>
      if s.cfg.calOk = false then raise .config opcCalStart s
      else if s.card.selftestOk = false then
        raise .hwFault opcCalStart
          ({ s with cal := { s.cal with err := .hwFault } } : State).fatalTeardown
      else if s.life.lock ≠ .free then raise .busy opcCalStart s
      else
        complete opcCalStart
          { s with cal := s.cal.started s.cfg c, life := { s.life with lock := .cal } }

/-- `abort_run(code)` (spec/43_calibrator.md R197): the previous valid tap, or 0, goes back to the channel. -/
def State.abortRun (code : ErrCode) (s : State) : State :=
  let prev := s.cal.res.get s.cal.calCh
  let t := s.dwrite (.dlyTap s.cal.calCh) (if prev.valid then prev.tap.setWidth 32 else 0#32)
  { t with
    cal := { t.cal with err := code, fsm := .idle, phase := .none }
    life := { t.life with lock := .free } }

/-- How `TdcWait` ends: with a raw result, or with the code of an abort (spec/43_calibrator.md R185). -/
inductive TdcOutcome where
  | raw (v : BitVec 17)
  | failed (code : ErrCode)
deriving DecidableEq, Repr

/-- `TdcWait()` with the polls that are left (spec/43_calibrator.md R185): ERR is looked at before RDY. -/
def State.tdcWait : Nat → State → TdcOutcome × State
  | 0, s => (.failed .timeout, s)
  | n + 1, s =>
    let st := s.dread .tdcStatus
    if st.1.getLsbD 1 then (.failed .measFail, st.2)
    else if st.1.getLsbD 0 then
      let r := st.2.dread .tdcResult
      (.raw (tdcRaw r.1), r.2)
    else State.tdcWait n st.2

/-- The five writes that begin every shot (spec/43_calibrator.md R184). -/
def State.armShot (s : State) : State :=
  ((((s.dwrite (.chCtrl s.cal.calCh) 0#32).dwrite .calArm (1#32 <<< s.cal.calCh.toNat)).dwrite
      (.dlyTap s.cal.calCh) (s.cal.curTap.setWidth 32)).dwrite .tdcTrig 1#32).dwrite .calPulse 1#32

/-- The smaller of two `s64` values. -/
def minS64 (a b : BitVec 64) : BitVec 64 := if a.toInt ≤ b.toInt then a else b

/-- The larger of two `s64` values. -/
def maxS64 (a b : BitVec 64) : BitVec 64 := if b.toInt ≤ a.toInt then a else b

/-- `Accumulate(v)` (spec/43_calibrator.md R186), with its overflow (R196). -/
def State.accumulate (v : BitVec 64) (s : State) : State :=
  let sum := s.cal.acc.toInt + v.toInt
  ({ s with
      cal :=
        { s.cal with
          acc := wrapS64 sum
          runMin := minS64 s.cal.runMin v
          runMax := maxS64 s.cal.runMax v
          shotCount := s.cal.shotCount + 1#16 } } : State).noteOvf (outsideS64 sum)

/-- `cal.shot` is enabled (spec/43_calibrator.md R184). -/
def Calibrator.shotEnabled (c : Calibrator) : Bool :=
  c.running && (c.phase == .bias || c.phase == .search) && decide (c.shotCount.toNat < c.nL.toNat)

/-- `cal.shot` (spec/43_calibrator.md R184): the sequence is one atomic step. -/
def execCalShot (s : State) : Result :=
  if s.cal.shotEnabled then
    match s.armShot.tdcWait s.cal.waitL.toNat with
    | (.failed code, t) => .next (t.abortRun code)
    | (.raw raw, t) =>
      if t.cal.denL = 0#32 then .fault .divideByZero
      else
        let v := toPsExact t.cal.numL t.cal.denL t.cal.binL raw
        .next ((t.noteOvf (outsideS64 v)).accumulate (wrapS64 v))
  else hold s

/-- `cal.point` is enabled (spec/43_calibrator.md R187). -/
def Calibrator.pointEnabled (c : Calibrator) : Bool :=
  c.running && (c.phase == .bias || c.phase == .search) && decide (c.shotCount.toNat = c.nL.toNat)

/-- Bias completion (spec/43_calibrator.md R188). -/
def Calibrator.biasDone (avg : BitVec 64) (c : Calibrator) : Calibrator :=
  ({ c with
      bias := avg
      lowDelay := avg
      low := 0#16
      high := 1023#16
      phase := .search
      fsm := .binarySearching } : Calibrator).beginPoint (midTap 0#16 1023#16)

/-- The bound a midpoint moves (spec/43_calibrator.md R189): `avg - bias`, in ℤ, against 8000 ps. -/
def Calibrator.moveBound (avg : BitVec 64) (c : Calibrator) : Calibrator :=
  if avg.toInt - c.bias.toInt < Config.calTargetPs then
    { c with low := c.curTap, lowDelay := avg, iter := c.iter + 1#32 }
  else { c with high := c.curTap, iter := c.iter + 1#32 }

/-- Search update (spec/43_calibrator.md R189). -/
def Calibrator.searchDone (avg : BitVec 64) (c : Calibrator) : Calibrator :=
  let m := c.moveBound avg
  if (m.high.toNat : Int) - m.low.toNat ≤ 1 then { m with phase := .fit }
  else m.beginPoint (midTap m.low m.high)

/-- `acc div n_l`, floor (spec/43_calibrator.md R187). -/
def Calibrator.average (c : Calibrator) : BitVec 64 := wrapS64 (c.acc.toInt / c.nL.toNat)

/-- `cal.point` (spec/43_calibrator.md R187). -/
def execCalPoint (s : State) : Result :=
  if s.cal.pointEnabled then
    if s.cal.nL = 0#32 then .fault .divideByZero
    else
      match s.cal.phase with
      | .bias => .next { s with cal := s.cal.biasDone s.cal.average }
      | .search => .next { s with cal := s.cal.searchDone s.cal.average }
      | .none => hold s
      | .fit => hold s
  else hold s

/-- `Commit(off)` (spec/43_calibrator.md R195). -/
def State.commit (off : BitVec 32) (s : State) : State :=
  { s with
    cal :=
      { s.cal with
        res :=
          s.cal.res.set s.cal.calCh
            { valid := true, tap := s.cal.low, offset := off, delay := s.cal.lowDelay }
        fsm := .converged
        err := .ok
        phase := .none }
    life := { s.life with lock := .free } }

/-- `cal.fit` (spec/43_calibrator.md R192): one read of `TEMP`, one tap write, and the commit. -/
def execCalFit (s : State) : Result :=
  if s.cal.fsm = .binarySearching ∧ s.cal.phase = .fit then
    let off := fitOffsetExact s.cal.low (polyTap s.cal.c0L s.cal.c1L s.cal.c2L s.card.temp)
    .next
      (((s.noteOvf (outsideS32 off)).dwrite (.dlyTap s.cal.calCh) (s.cal.low.setWidth 32)).commit
        (wrapS32 off))
  else hold s

end Sys2Proof.Machine
end

