-- ==== Sys2Proof/Machine/CaptureUnit.lean ====
section
/-! DEFINITION. The capture scheduler (spec/42_capture.md): the tick, the interrupt top-half, the drain iteration, the
drain finish, and delivery. An operation whose enabling condition fails holds (log 2). -/

namespace Sys2Proof.Machine

/-- A drain starts: `DR_STATE <- ACTIVE; dr_ctx <- ctx; dr_pushed <- 0` (spec/42_capture.md R149, R150). -/
def State.startDrain (ctx : CapMode) (s : State) : State :=
  { s with capt := { s.capt with dr := .active, drCtx := ctx, drPushed := 0#64 } }

/-- `cap.tick` (spec/42_capture.md R149): a tick that may not start a drain is discarded. -/
def execCapTick (s : State) : Result :=
  if s.life.dev = .opened ∧ s.capt.mode = .poll ∧ s.capt.dr = .idle then .next (s.startDrain .poll)
  else hold s

/-- `cap.irq` (spec/42_capture.md R150). -/
def execCapIrq (s : State) : Result :=
  if s.card.irqPend = true ∧ s.life.dev = .opened ∧ s.capt.mode = .irq ∧ s.capt.dr = .idle then
    .next (s.startDrain .irq)
  else hold s

/-- `cap.drain_step` (spec/42_capture.md R147). `dr_pushed` counts modulo 2^64: the spec gives its width only, so what a
drain of 2^64 samples leaves in it is the model's choice (DESIGN CHOICE, log 27). -/
def execCapDrainStep (s : State) : Result :=
  if s.capt.dr = .active then
    let csr := s.dread .fifoCsr
    if csr.1.getLsbD 0 then
      .next { csr.2 with capt := { csr.2.capt with dr := .finish } }
    else
      let x := csr.2.readTuple
      match x.2.ringPush? x.1 with
      | none => .fault .ringAbsent
      | some t => .next { t with capt := { t.capt with drPushed := t.capt.drPushed + 1#64 } }
  else hold s

/-- The end of a drain: READY if it pushed a sample, then IDLE (spec/42_capture.md R151, R152). -/
def State.endDrain (s : State) : State :=
  { s with capt := { s.capt with ready := s.capt.ready || s.capt.drPushed != 0#64, dr := .idle } }

/-- `cap.drain_finish` (spec/42_capture.md R151): in IRQ context, the acknowledge and then the re-check. -/
def execCapDrainFinish (s : State) : Result :=
  if s.capt.dr = .finish then
    match s.capt.drCtx with
    | .poll => .next s.endDrain
    | .irq =>
      let csr := (s.dwrite .irqAck 1#32).dread .fifoCsr
      if csr.1.getLsbD 0 then .next csr.2.endDrain
      else .next { csr.2 with capt := { csr.2.capt with dr := .active } }
  else hold s

/-- A sample's time after the offsets of its channel (spec/42_capture.md R155): `Normalize`, and then, unless the result
is out of range or the channel is 4 or more, `Add` of `P2T(ZERO_OFF)` and of `P2T(USER_OFF)`. -/
structure Delivered where
  time : TimeValue
  nr   : Bool
  cr   : Bool
  ov   : Bool
deriving DecidableEq, Repr

/-- The arithmetic of one delivery (spec/42_capture.md R155). -/
def deliverTime (cfg : HostCfg) (x : RawSample) : Delivered :=
  let n := timeNormalize x
  if n.nr then { time := n.val, nr := true, cr := false, ov := n.ov }
  else
    match Chan.ofNat? x.channel.toNat with
    | none => { time := n.val, nr := false, cr := true, ov := n.ov }
    | some ch =>
      let z := timeAdd n.val (picoToTime (cfg.zeroOff.get ch))
      let u := timeAdd z.val (picoToTime (cfg.userOff.get ch))
      { time := u.val, nr := false, cr := false, ov := n.ov || z.ov || u.ov }

/-- The record of one delivery (spec/42_capture.md R155). -/
def deliverRecord (d : Delivered) (x : RawSample) (gap : BitVec 16) : OutRec where
  utc := d.time.utc
  coarse := d.time.coarse
  frac := d.time.frac
  channel := x.channel
  seq := x.seq
  gap := gap
  flags := recordFlags d.nr d.cr d.ov

/-- The sequence gap of a delivery and the counters it moves (spec/42_capture.md R154, R155, R156). -/
def State.countDelivery (x : RawSample) (gap : BitVec 16) (s : State) : State :=
  { s with
    capt :=
      { s.capt with
        lost := s.capt.lost + gap.setWidth 64
        lastSeq := x.seq
        lastValid := true
        delivered := s.capt.delivered + 1#64
        ready := false } }

/-- One delivery of the popped sample x (spec/42_capture.md R155). -/
def State.deliver (x : RawSample) (s : State) : State :=
  let d := deliverTime s.cfg x
  let gap := seqGap s.capt.lastValid s.capt.lastSeq x.seq
  let flagged := ((s.noteOvf d.ov).noteNormRange d.nr).noteChRange d.cr
  (flagged.emit (deliverRecord d x gap)).countDelivery x gap

/-- `cap.deliver` (spec/42_capture.md R153, R155). -/
def execCapDeliver (s : State) : Result :=
  if s.life.dev = .opened ∧ s.ring.head ≠ s.ring.tail then
    match s.ring.pop with
    | .absent => .fault .ringAbsent
    | .empty _ => hold s
    | .unwritten => .fault .unwrittenSlot
    | .sample x r =>
      if x.isRaw then .next (({ s with ring := r } : State).deliver x) else .fault .sampleDomain
  else hold s

end Sys2Proof.Machine
end

