-- ==== Sys2Proof/Machine/Device.lean ====
section
/-! DEFINITION. The device lifecycle (spec/44_device.md): `nop`, `dev.open`, `dev.close` and the three teardown steps. -/

namespace Sys2Proof.Machine

/-- `nop`: nothing but `ERR <- {0x00, 0x00}`, in every state (spec/44_device.md R217). -/
def execNop (s : State) : Result := complete opcNop s

/-- The capture mode that `CAP_MODE[0]` selects (spec/44_device.md R216). -/
def HostCfg.mode (c : HostCfg) : CapMode := if c.capMode then .irq else .poll

/-- What an accepted `dev.open` sets before it enables the interrupt (spec/44_device.md R216). -/
def State.openDevice (s : State) : State :=
  let t := s.ringNew s.cfg.rbCap
  { t with
    capt :=
      { t.capt with
        mode := t.cfg.mode
        dropped := 0#64
        lost := 0#64
        delivered := 0#64
        lastValid := false
        lastSeq := 0#16
        ready := false
        dr := .idle
        drPushed := 0#64 }
    cal := { t.cal with res := .all CalResult.zero, fsm := .idle, stateCh := .ch0, err := .ok }
    life := { t.life with compRun := true, dev := .opened } }

/-- In IRQ mode: the interrupt is enabled and the priming drain starts (spec/44_device.md R216, R217). -/
def State.primeIrq (s : State) : State :=
  let t := s.dwrite .irqEn 1#32
  { t with capt := { t.capt with dr := .active, drCtx := .irq } }

/-- `dev.open` (spec/44_device.md R216). -/
def execDevOpen (s : State) : Result :=
  if s.life.fatal = true ∨ s.life.dev ≠ .closed then raise .state opcDevOpen s
  else if ringCapOk s.cfg.rbCap = false then raise .config opcDevOpen s
  else
    match s.cfg.mode with
    | .poll => complete opcDevOpen s.openDevice
    | .irq => complete opcDevOpen s.openDevice.primeIrq

/-- `dev.close` (spec/44_device.md R218). -/
def execDevClose (s : State) : Result :=
  match s.life.dev with
  | .closed => complete opcDevClose s
  | .closing => complete opcDevClose s
  | .opened =>
    if s.cal.running then raise .busy opcDevClose s
    else complete opcDevClose { s with life := { s.life with dev := .closing, phase := .stopCapture } }

/-- `lc.stop_capture` (spec/44_device.md R219): the capture join is the guard `DR_STATE = IDLE`. -/
def execLcStopCapture (s : State) : Result :=
  if s.life.dev = .closing ∧ s.life.phase = .stopCapture ∧ s.capt.dr = .idle then
    let t := match s.capt.mode with
      | .irq => s.dwrite .irqEn 0#32
      | .poll => s
    .next { t with life := { t.life with phase := .stopComp } }
  else hold s

/-- `lc.stop_comp` (spec/44_device.md R219). -/
def execLcStopComp (s : State) : Result :=
  if s.life.dev = .closing ∧ s.life.phase = .stopComp then
    .next { s with life := { s.life with compRun := false, phase := .release } }
  else hold s

/-- `lc.release` (spec/44_device.md R219): the compensator join is the guard `LOCK != COMP`. The storage ceases to exist;
`head` and `tail` stay, since `RB_HEAD` and `RB_TAIL` go on reading them (spec/10_state.md R34). -/
def execLcRelease (s : State) : Result :=
  if s.life.dev = .closing ∧ s.life.phase = .release ∧ s.life.lock ≠ .comp then
    .next
      { s with
        ring := { s.ring with cap := none, slots := [] }
        capt := { s.capt with ready := false }
        life := { s.life with dev := .closed, phase := .none } }
  else hold s

end Sys2Proof.Machine
end

