-- ==== Sys2Proof/Machine/RingBuffer.lean ====
section
/-! DEFINITION. The ring buffer's operations as instructions of their own (spec/41_ringbuffer.md). No step runs them alone:
`dev.open`, `cap.drain_step` and `cap.deliver` perform them through the same shared operations (spec/30_encoding.md R95,
log 11). -/

namespace Sys2Proof.Machine

/-- `rb.new(RB_CAP)` (spec/41_ringbuffer.md R132). A rejected capacity raises CONFIG in the command it runs inside, which
is `dev.open` (log 15). -/
def execRbNew (s : State) : Result :=
  if ringCapOk s.cfg.rbCap then .next (s.ringNew s.cfg.rbCap) else raise .config opcDevOpen s

/-- `rb.push(x)` (spec/41_ringbuffer.md R133, R134). -/
def execRbPush (x : RawSample) (s : State) : Result :=
  match s.ringPush? x with
  | none => .fault .ringAbsent
  | some t => .next t

/-- `rb.pop()` (spec/41_ringbuffer.md R136). -/
def execRbPop (s : State) : Result :=
  match s.ring.pop with
  | .absent => .fault .ringAbsent
  | .unwritten => .fault .unwrittenSlot
  | .empty r => .next { s with ring := r }
  | .sample _ r => .next { s with ring := r }

end Sys2Proof.Machine
end

