-- ==== Sys2Proof/Machine/TimeValueUnit.lean ====
section
/-! DEFINITION. The TimeValue unit's commands (spec/40_timevalue.md R116, R118, R120, R122, R124). They execute in every
device state (spec/44_device.md R222). -/

namespace Sys2Proof.Machine

/-- `R <- t`, with the sticky bits of the function that made t (spec/30_encoding.md R91, spec/40_timevalue.md R112, R115). -/
def State.putTime (x : TimeResult) (s : State) : State :=
  (({ s with tvu := { s.tvu with r := x.val } } : State).noteOvf x.ov).noteNormRange x.nr

/-- `tv.norm` (spec/40_timevalue.md R116). A result with `nr = 1` is written and flagged, and is the fault of R115
(log 4). -/
def execTvNorm (s : State) : Result :=
  if s.tvu.a.isRaw then complete opcTvNorm (s.putTime (timeNormalize s.tvu.a))
  else raise .domain opcTvNorm s

/-- `tv.add` (spec/40_timevalue.md R118). -/
def execTvAdd (s : State) : Result :=
  if isNormalized s.tvu.a && isNormalized s.tvu.b then
    complete opcTvAdd (s.putTime (timeAdd s.tvu.a s.tvu.b))
  else raise .domain opcTvAdd s

/-- `tv.sub` (spec/40_timevalue.md R120): A is the minuend, B the subtrahend. -/
def execTvSub (s : State) : Result :=
  if isNormalized s.tvu.a && isNormalized s.tvu.b then
    complete opcTvSub (s.putTime (timeSub s.tvu.a s.tvu.b))
  else raise .domain opcTvSub s

/-- `tv.p2t` (spec/40_timevalue.md R122). -/
def execTvP2t (s : State) : Result :=
  complete opcTvP2t { s with tvu := { s.tvu with r := picoToTime s.tvu.psIn } }

/-- `tv.t2p` (spec/40_timevalue.md R124). -/
def execTvT2p (s : State) : Result :=
  if isNormalized s.tvu.a then
    let p := timeToPicoExact s.tvu.a
    complete opcTvT2p
      (({ s with tvu := { s.tvu with psOut := wrapS64 p } } : State).noteOvf (outsideS64 p))
  else raise .domain opcTvT2p s

end Sys2Proof.Machine
end

