-- ==== Sys2Proof/Machine/Dispatch.lean ====
section
/-! DEFINITION. One arm per constructor of Instr, each one direct call of its meaning. -/

namespace Sys2Proof.Machine

/-- The meaning of an instruction. -/
def exec (i : Instr) (s : State) : Host.Outcome State Fault Refusal :=
  match i with
  | .nop => Sys2Proof.Machine.execNop s
  | .tvNorm => Sys2Proof.Machine.execTvNorm s
  | .tvAdd => Sys2Proof.Machine.execTvAdd s
  | .tvSub => Sys2Proof.Machine.execTvSub s
  | .tvP2t => Sys2Proof.Machine.execTvP2t s
  | .tvT2p => Sys2Proof.Machine.execTvT2p s
  | .devOpen => Sys2Proof.Machine.execDevOpen s
  | .devClose => Sys2Proof.Machine.execDevClose s
  | .calStart ch => Sys2Proof.Machine.execCalStart ch s
  | .rbNew => Sys2Proof.Machine.execRbNew s
  | .rbPush x => Sys2Proof.Machine.execRbPush x s
  | .rbPop => Sys2Proof.Machine.execRbPop s
  | .capTick => Sys2Proof.Machine.execCapTick s
  | .capIrq => Sys2Proof.Machine.execCapIrq s
  | .capDrainStep => Sys2Proof.Machine.execCapDrainStep s
  | .capDrainFinish => Sys2Proof.Machine.execCapDrainFinish s
  | .capDeliver => Sys2Proof.Machine.execCapDeliver s
  | .calShot => Sys2Proof.Machine.execCalShot s
  | .calPoint => Sys2Proof.Machine.execCalPoint s
  | .calFit => Sys2Proof.Machine.execCalFit s
  | .lcStopCapture => Sys2Proof.Machine.execLcStopCapture s
  | .lcStopComp => Sys2Proof.Machine.execLcStopComp s
  | .lcRelease => Sys2Proof.Machine.execLcRelease s

end Sys2Proof.Machine
end

