-- ==== Sys2Proof/Machine/Step.lean ====
section
/-! DEFINITION. One atomic step of the machine, and how a command word comes to be the next step's (log 1). -/

namespace Sys2Proof.Machine

/-- One step: the next entry of the schedule is performed; an instruction it selects runs. -/
def step (s : State) : Host.Outcome State Fault Refusal :=
  match fetch s with
  | .run i t => exec i t
  | .done t => .next t

/-- `s` with a host write of the command word w to `CMD` as its next step (spec/10_state.md R26, spec/20_memory.md R79):
the bits of w above `nbits` are 0. -/
def State.withFetchWord (s : State) (nbits w : Nat) : State :=
  { s with sched := .hostWrite 0x004 (BitVec.ofNat 32 (w % 2 ^ nbits)) :: s.sched }

end Sys2Proof.Machine
end

