-- ==== Sys2Proof/Safety.lean ====
section
/-! DEFINITION. What counts as a safe state and a safe step, in the terms the statements use: the invariants the spec gives
the ring (spec/41_ringbuffer.md R131), the lifecycle (spec/10_state.md R50, spec/44_device.md R222), the calibration lock
(R49) and a run (spec/43_calibrator.md R182, R190, R191), and what a step that stops is. -/

namespace Sys2Proof.Machine

/-- The steps the model stops on (log 14): a fault or a refusal. -/
def Stops (r : Result) : Prop := ∀ t, r ≠ .next t

/-- A capacity that `rb.new` accepts (spec/41_ringbuffer.md R132), as the ring holds it. -/
def capLegal (c : BitVec 64) : Prop :=
  2 ^ c.toNat.log2 = c.toNat ∧ 2 ≤ c.toNat ∧ c.toNat ≤ 2 ^ Config.rbCapMaxLog2

/-- Slot index of the i-th live sample (spec/41_ringbuffer.md R131, R136). -/
def Ring.liveIndex (r : Ring) (c : BitVec 64) (i : Nat) : Nat := slotIndex (r.tail + BitVec.ofNat 64 i) c

/-- The contents of the ring, oldest first: the samples in [tail, head) (spec/41_ringbuffer.md R136). -/
def Ring.contents (r : Ring) (c : BitVec 64) : List (Option RawSample) :=
  (List.range r.occupancy.toNat).map (fun i => Memory.read r.slots (r.liveIndex c i))

/-- The invariant of the ring: the storage is canonical, exists exactly outside CLOSED (spec/41_ringbuffer.md R139), has a
legal capacity, holds at most `cap - 1` samples (R131), has written every live slot (spec/10_state.md R51), and holds raw
samples only (spec/30_encoding.md R93). -/
structure RingInv (s : State) : Prop where
  canonical : Memory.wf s.ring.slots
  raw : ∀ p ∈ s.ring.slots, p.2.isRaw = true
  absent : s.ring.cap = none ↔ s.life.dev = .closed
  empty : s.ring.cap = none → s.ring.slots = []
  legal : ∀ c, s.ring.cap = some c → capLegal c
  bound : ∀ c, s.ring.cap = some c → s.ring.occupancy.toNat + 1 ≤ c.toNat
  written : ∀ c, s.ring.cap = some c → ∀ i, i < s.ring.occupancy.toNat →
    Memory.read s.ring.slots (s.ring.liveIndex c i) ≠ none

/-- The invariant of the lifecycle: a teardown phase exactly while CLOSING (spec/10_state.md R50), `FATAL` implies not OPEN
(spec/44_device.md R222), the drainer is joined before the compensator (R219), no drain outside OPEN and CLOSING
(spec/42_capture.md R146), the compensator timer stopped and its lock freed before release (R219). -/
structure LifeInv (s : State) : Prop where
  closing : s.life.dev = .closing ↔ s.life.phase ≠ .none
  fatal : s.life.fatal = true → s.life.dev ≠ .opened
  drainClosed : s.life.dev = .closed → s.capt.dr = .idle
  drainJoined : s.life.phase = .stopComp ∨ s.life.phase = .release → s.capt.dr = .idle
  compOpen : s.life.dev = .opened → s.life.compRun = true
  compStopped : s.life.phase = .release ∨ s.life.dev = .closed → s.life.compRun = false
  lockClosed : s.life.dev = .closed → s.life.lock = .free
  drainMode : s.capt.dr ≠ .idle → s.capt.drCtx = s.capt.mode

/-- The invariant of the calibrator: a run exactly while the lock is CAL (spec/10_state.md R49), only while OPEN
(spec/43_calibrator.md R200), with the parameters `cal.start` accepts (R180), and with the search bounds and the count of
midpoints of R189 to R191. -/
structure CalInv (s : State) : Prop where
  lock : s.cal.running = true ↔ s.life.lock = .cal
  opened : s.cal.running = true → s.life.dev = .opened
  phaseNone : s.cal.phase = .none ↔ s.cal.running = false
  phaseBias : s.cal.phase = .bias ↔ s.cal.fsm = .measuringBias
  count : s.cal.running = true →
    2 ^ s.cal.nL.toNat.log2 = s.cal.nL.toNat ∧ s.cal.nL.toNat ≤ 2 ^ Config.calNMaxLog2
  scale : s.cal.running = true → s.cal.denL ≠ 0#32 ∧ s.cal.binL ≠ 0#32 ∧ s.cal.waitL ≠ 0#32
  shots : s.cal.running = true → s.cal.shotCount.toNat ≤ s.cal.nL.toNat
  biasTap : s.cal.phase = .bias → s.cal.curTap = 0#16 ∧ s.cal.iter = 0#32
  search : s.cal.phase = .search →
    s.cal.high.toNat ≤ Config.tapMax ∧ s.cal.low.toNat + 1 < s.cal.high.toNat ∧
      s.cal.curTap = midTap s.cal.low s.cal.high ∧
      s.cal.iter.toNat < 10 ∧ s.cal.high.toNat - s.cal.low.toNat ≤ 2 ^ (10 - s.cal.iter.toNat)
  fit : s.cal.phase = .fit →
    s.cal.high.toNat ≤ Config.tapMax ∧ s.cal.high.toNat = s.cal.low.toNat + 1 ∧ s.cal.iter.toNat ≤ 10
  results : ∀ ch, (s.cal.res.get ch).tap.toNat + 1 ≤ Config.tapMax

/-- The invariant of the machine. -/
structure Inv (s : State) : Prop where
  ring : RingInv s
  life : LifeInv s
  cal : CalInv s

/-- No tuple is stranded in the card FIFO (spec/70_reset_and_hazards.md R271): in IRQ mode, while OPEN, the interrupt is
enabled, and a tuple waiting with the drainer idle has its interrupt pending. -/
structure NoStrandedTuple (s : State) : Prop where
  enabled : s.life.dev = .opened → s.capt.mode = .irq → s.card.irqEn = true
  pending : s.life.dev = .opened → s.capt.mode = .irq → s.capt.dr = .idle → s.card.fifo ≠ [] →
    s.card.irqPend = true

/-- Every record of the output stream is a valid timestamp unless it carries `NR` (spec/40_timevalue.md R115, log 4). -/
def StreamNormalized (s : State) : Prop :=
  ∀ r ∈ s.capt.out, r.flags.getLsbD 0 = false →
    r.coarse.toNat < Config.coarseMod ∧ r.frac.toNat < Config.fracMod

/-- Every time the block has produced since reset is in the range of the source's invariant, unless the model has taken the
fault of spec/40_timevalue.md R115: without it R is normalized, and so is every record, none of them flagged `NR`
(log 4). -/
structure NormalizedUnlessFault (s : State) : Prop where
  result : s.rangeFault = false → s.tvu.r.coarse.toNat < Config.coarseMod ∧ s.tvu.r.frac.toNat < Config.fracMod
  stream : s.rangeFault = false → ∀ r ∈ s.capt.out,
    r.flags.getLsbD 0 = false ∧ r.coarse.toNat < Config.coarseMod ∧ r.frac.toNat < Config.fracMod

/-- The access kinds of spec/10_state.md R23; a `RW` register names the bits it has, the rest being reserved. -/
inductive CsrKind where
  | rw (mask : Word)
  | ro
  | w1c
  | wx
deriving DecidableEq, Repr

/-- The bits the words of an operand register set have (spec/10_state.md R31). -/
def TvWord.mask : TvWord → Word
  | .utc _ => 0xFFFFFFFF#32
  | .coarse => 0xFFFFFFFF#32
  | .frac => 0x0000FFFF#32
  | .metaWord => 0x00FFFFFF#32

/-- The access kind of each register (spec/10_state.md R24, R31 to R43). -/
def Csr.kind : Csr → CsrKind
  | .id => .ro
  | .cmd => .wx
  | .status => .ro
  | .err => .ro
  | .statusClr => .w1c
  | .inputs => .ro
  | .opA w => .rw w.mask
  | .opB w => .rw w.mask
  | .opR _ => .ro
  | .psIn _ => .rw 0xFFFFFFFF#32
  | .psOut _ => .ro
  | .rbCap => .rw 0xFFFFFFFF#32
  | .capMode => .rw 0x00000001#32
  | .pollMs => .rw 0xFFFFFFFF#32
  | .rbFill => .ro
  | .rbHead _ => .ro
  | .rbTail _ => .ro
  | .dropped _ => .ro
  | .lost _ => .ro
  | .lastSeq => .ro
  | .delivered _ => .ro
  | .zeroOff _ _ => .rw 0xFFFFFFFF#32
  | .userOff _ _ => .rw 0xFFFFFFFF#32
  | .calN => .rw 0xFFFFFFFF#32
  | .scaleNum => .rw 0xFFFFFFFF#32
  | .scaleDen => .rw 0xFFFFFFFF#32
  | .binFp => .rw 0xFFFFFFFF#32
  | .calState => .ro
  | .calLow => .ro
  | .calHigh => .ro
  | .calIter => .ro
  | .calBias _ => .ro
  | .calMin _ => .ro
  | .calMax _ => .ro
  | .waitMax => .rw 0xFFFFFFFF#32
  | .calShot => .ro
  | .polyC0 _ => .rw 0xFFFFFFFF#32
  | .polyC1 _ => .rw 0xFFFFFFFF#32
  | .polyC2 _ => .rw 0xFFFFFFFF#32
  | .compPeriod => .rw 0xFFFFFFFF#32
  | .resTap _ => .ro
  | .resOffset _ => .ro
  | .resDelay _ _ => .ro

/-- The numeric error codes of spec/60_exceptions.md R236. -/
def ErrCode.number : ErrCode → Nat
  | .ok => 0
  | .config => 1
  | .hwFault => 2
  | .overflow => 3
  | .timeout => 4
  | .domain => 5
  | .illegal => 6
  | .busy => 7
  | .state => 8
  | .measFail => 9

/-- A byte offset at which a host access is a bus error (spec/20_memory.md R63). -/
def busErrorAt (off : Nat) : Prop := off % 4 ≠ 0 ∨ 0x400 ≤ off ∨ ∀ r : Csr, r.offset ≠ off

/-- The state with other values in the two registers no rule of the block reads (spec/10_state.md R33, R41). -/
def State.withTimers (poll comp : Word) (s : State) : State :=
  { s with cfg := { s.cfg with pollMs := poll, compPeriod := comp } }

/-- The state a delivery of the sample x leaves when its record has the time t and the flags NR, CR, OV
(spec/42_capture.md R154, R155). -/
def State.delivered (x : RawSample) (t : TimeValue) (nr cr ov : Bool) (s : State) : State :=
  let gap : BitVec 16 := if s.capt.lastValid then x.seq - s.capt.lastSeq - 1#16 else 0#16
  { s with
    ring := { s.ring with tail := s.ring.tail + 1#64, ret := .sample x }
    sticky :=
      { s.sticky with
        ovf := s.sticky.ovf || ov
        normRange := s.sticky.normRange || nr
        chRange := s.sticky.chRange || cr }
    rangeFault := s.rangeFault || nr
    capt :=
      { s.capt with
        ready := false
        lost := s.capt.lost + gap.setWidth 64
        lastValid := true
        lastSeq := x.seq
        delivered := s.capt.delivered + 1#64
        out := s.capt.out ++
          [{ utc := t.utc, coarse := t.coarse, frac := t.frac, channel := x.channel, seq := x.seq, gap := gap,
             flags := (if nr then 1#8 else 0#8) ||| (if cr then 2#8 else 0#8) ||| (if ov then 4#8 else 0#8) }] } }

/-- The five downstream writes that begin a shot on a channel at a tap (spec/43_calibrator.md R184). -/
def shotWrites (ch : Chan) (tap : BitVec 16) : List Txn :=
  [.write (.chCtrl ch) 0#32, .write .calArm (BitVec.ofNat 32 (2 ^ ch.toNat)),
    .write (.dlyTap ch) (tap.setWidth 32), .write .tdcTrig 1#32, .write .calPulse 1#32]

/-- The card after the five writes of a shot and the TDC reads that leave `rest` of its answers (spec/20_memory.md R66). -/
def Card.afterShot (ch : Chan) (tap : BitVec 16) (rest : List Word) (c : Card) : Card :=
  { c with
    chCtrl := c.chCtrl.set ch 0#32
    calArm := BitVec.ofNat 32 (2 ^ ch.toNat)
    dlyTap := c.dlyTap.set ch (tap.setWidth 10)
    tdcDraws := rest }

/-- An answer to a `TDC_STATUS` read with neither RDY nor ERR (spec/20_memory.md R66). -/
def notReady (w : Word) : Prop := w.getLsbD 0 = false ∧ w.getLsbD 1 = false

/-- The tap an aborted run puts back: the channel's valid tap, or 0 (spec/43_calibrator.md R197). -/
def Calibrator.restoredTap (c : Calibrator) : BitVec 16 :=
  if (c.res.get c.calCh).valid then (c.res.get c.calCh).tap else 0#16

end Sys2Proof.Machine
end

