-- ==== Sys2Proof/Certificates/Slice0/Obligations.lean ====
section
/-! DEFINITION. The statements for the provers. OBLIGATIONS.json lists each with its title, its tier and the rules it
formalises. -/

open Sys2Proof Sys2Proof.Machine

/-! ## The command word -/

/-- Words written out from the fields of spec/30_encoding.md R86 and the map of R88, and one word of each bullet of R90. -/
def Obligations.DecodeSampleWords : Prop :=
  decode 0x00000000#32 = .ok .nop ∧ decode 0x00000003#32 = .ok .tvSub ∧ decode 0x00000005#32 = .ok .tvT2p ∧
    decode 0x00000010#32 = .ok .devOpen ∧ decode 0x00000011#32 = .ok .devClose ∧
    decode 0x00000020#32 = .ok (.calStart 0#4) ∧ decode 0x00000220#32 = .ok (.calStart 2#4) ∧
    decode 0x00000F20#32 = .ok (.calStart 15#4) ∧ decode 0x00000006#32 = .error .reservedOpcode ∧
    decode 0x00000101#32 = .error .channelNotZero ∧ decode 0x00001001#32 = .error .reservedBits

/-- Decoding an encoded instruction gives it back, with every operand; exactly the commands of the opcode map of
spec/30_encoding.md R88 have a word. -/
def Obligations.DecodeEncode : Prop :=
  (∀ (i : Instr) (w : Word), i.wellFormed = true → encode i = some w → decode w = .ok i) ∧
    ∀ i : Instr, (encode i).isSome = true ↔ ∃ row ∈ opcodeMap, row.mnemonic = i.mnemonic

/-- A word that decodes is the word of the instruction it decodes to (spec/30_encoding.md R87). -/
def Obligations.EncodeDecode : Prop :=
  ∀ (w : Word) (i : Instr), decode w = .ok i → encode i = some w ∧ i.wellFormed = true

/-- The match and the mask of a row of spec/30_encoding.md R88 select it, no word selects two rows, and the channel of
`cal.start` is `CH` = w[11:8]. -/
def Obligations.OpcodeMapSelects : Prop :=
  (∀ row ∈ opcodeMap, ∀ w : Word,
    (∃ i, decode w = .ok i ∧ i.mnemonic = row.mnemonic) ↔ w &&& row.mask = row.pattern) ∧
  opcodeMap.Pairwise (fun a b => ∀ w : Word, ¬ (w &&& a.mask = a.pattern ∧ w &&& b.mask = b.pattern)) ∧
  ∀ (w : Word) (ch : BitVec 4), decode w = .ok (.calStart ch) → ch.toNat = w.toNat / 256 % 16

/-- The words of spec/30_encoding.md R90 execute as ILLEGAL, with the effect of spec/60_exceptions.md R244; every other
word decodes; only the zero word is `nop`. -/
def Obligations.IllegalWordsReportIllegal : Prop :=
  ∀ w : Word,
    let opc := w.toNat % 256
    let ch := w.toNat / 256 % 16
    let rsv := w.toNat / 4096
    let reserved := rsv ≠ 0 ∨ (6 ≤ opc ∧ opc ≤ 0x0F) ∨ (0x12 ≤ opc ∧ opc ≤ 0x1F) ∨ 0x21 ≤ opc ∨
      ((opc ≤ 5 ∨ opc = 0x10 ∨ opc = 0x11) ∧ ch ≠ 0)
    (reserved → ∀ (s : State) (rest : List Event), s.sched = .hostWrite 0x004 w :: rest →
      step s = .next { s with sched := rest, cmd := w, errCode := .illegal, errOp := BitVec.ofNat 8 opc }) ∧
    (¬ reserved → ∃ i, decode w = .ok i) ∧ (decode w = .ok .nop ↔ w = 0x00000000#32)

/-! ## A step -/

/-- A host write to `CMD` of a word that decodes stores the word and executes the command in the same step
(spec/10_state.md R26). The head of the schedule is the step's host access (log 1). -/
def Obligations.StepRunsDecodedCommand : Prop :=
  ∀ (s : State) (rest : List Event) (w : Word) (i : Instr), s.sched = .hostWrite 0x004 w :: rest →
    decode w = .ok i → step s = exec i { s with sched := rest, cmd := w }

/-- Which internal operation each agent's step performs (spec/30_encoding.md R95). -/
def Obligations.AgentsRunTheirOperations : Prop :=
  ∀ (s : State) (rest : List Event),
    (s.sched = .envTick :: rest → step s = exec .capTick { s with sched := rest }) ∧
    (s.sched = .deliverer :: rest → step s = exec .capDeliver { s with sched := rest }) ∧
    (s.sched = .drainer :: rest →
      (s.capt.dr = .idle → step s = exec .capIrq { s with sched := rest }) ∧
      (s.capt.dr = .active → step s = exec .capDrainStep { s with sched := rest }) ∧
      (s.capt.dr = .finish → step s = exec .capDrainFinish { s with sched := rest })) ∧
    (s.sched = .calibrator :: rest →
      ((s.cal.phase = .bias ∨ s.cal.phase = .search) → s.cal.shotCount.toNat < s.cal.nL.toNat →
        step s = exec .calShot { s with sched := rest }) ∧
      ((s.cal.phase = .bias ∨ s.cal.phase = .search) → s.cal.shotCount.toNat = s.cal.nL.toNat →
        step s = exec .calPoint { s with sched := rest }) ∧
      (s.cal.phase = .fit → step s = exec .calFit { s with sched := rest })) ∧
    (s.sched = .lifecycle :: rest →
      (s.life.phase = .stopCapture → step s = exec .lcStopCapture { s with sched := rest }) ∧
      (s.life.phase = .stopComp → step s = exec .lcStopComp { s with sched := rest }) ∧
      (s.life.phase = .release → step s = exec .lcRelease { s with sched := rest }))

/-! ## The host CSR window -/

/-- A host read of a register returns its value and has no side effect (spec/20_memory.md R69). `hostRdata` is the model's
record of the bus data (log 12). -/
def Obligations.HostReadHasNoSideEffect : Prop :=
  ∀ (s : State) (rest : List Event) (r : Csr), s.sched = .hostRead r.offset :: rest →
    step s = .next { s with sched := rest, hostRdata := readCsr s r }

/-- A host write of a `RW` register is read back, its reserved bits as 0, and changes no other register; of a `RO`
register it is ignored (spec/10_state.md R23, spec/20_memory.md R69). -/
def Obligations.HostWriteReadsBack : Prop :=
  ∀ (s : State) (rest : List Event) (w : Word) (r : Csr), s.sched = .hostWrite r.offset w :: rest →
    (∀ m, r.kind = .rw m → ∃ t, step s = .next t ∧
      t = { s with sched := rest, tvu := t.tvu, cfg := t.cfg } ∧ readCsr t r = w &&& m ∧
      ∀ r', r' ≠ r → readCsr t r' = readCsr s r') ∧
    (r.kind = .ro → step s = .next { s with sched := rest })

/-- A host access at an offset that is misaligned, outside the window or unmapped is a bus error with the effect of
spec/20_memory.md R63; every register's own offset is not; a write to a `RO` register is ignored. -/
def Obligations.BusErrorEffect : Prop :=
  (∀ (s : State) (rest : List Event) (off : Nat) (w : Word), busErrorAt off →
    (s.sched = .hostRead off :: rest →
      step s = .next { s with sched := rest, hostRdata := 0#32, sticky := { s.sticky with busErr := true } }) ∧
    (s.sched = .hostWrite off w :: rest →
      step s = .next { s with sched := rest, sticky := { s.sticky with busErr := true } })) ∧
  (∀ r : Csr, ¬ busErrorAt r.offset ∧ ∀ r', r'.offset = r.offset → r' = r) ∧
  ∀ (s : State) (rest : List Event) (r : Csr) (w : Word), r.kind = .ro → s.sched = .hostWrite r.offset w :: rest →
    step s = .next { s with sched := rest }

/-- `STATUS_CLR` clears the sticky bits its word names and no other bit of `STATUS` (spec/10_state.md R28). -/
def Obligations.StatusClrClearsStickyBits : Prop :=
  ∀ (s : State) (rest : List Event) (w : Word), s.sched = .hostWrite 0x010 w :: rest →
    ∃ t, step s = .next t ∧ t = { s with sched := rest, sticky := t.sticky } ∧
      ∀ k, (readCsr t .status).getLsbD k =
        if 8 ≤ k ∧ k ≤ 12 then (readCsr s .status).getLsbD k && !w.getLsbD k
        else (readCsr s .status).getLsbD k

/-- The fields of the registers that pack several, with their reserved bits 0: `STATUS` (spec/10_state.md R27), the value 3
of `DEV_STATE` never shown; `ERR` (R29) with the codes of spec/60_exceptions.md R236; `INPUTS` (R30); `RB_FILL` and
`LAST_SEQ` (R34); `CAL_STATE` (R38); `CAL_LOW`, `CAL_HIGH`, `CAL_ITER` and `CAL_SHOT` (R39); `RES_TAP` and `RES_OFFSET`
(R43). -/
def Obligations.PackedRegistersShowTheirFields : Prop :=
  ∀ s : State,
    (let w := readCsr s .err
     w.toNat % 256 = s.errCode.number ∧ w.toNat / 2 ^ 8 % 256 = s.errOp.toNat ∧ w.toNat < 2 ^ 16) ∧
    (let w := readCsr s .inputs
     w.getLsbD 0 = s.card.selftestOk ∧ w.toNat / 2 % 2 ^ 15 = 0 ∧ w.toNat / 2 ^ 16 = s.card.temp.toNat) ∧
    ((readCsr s .rbFill).toNat : Int) =
      (if s.life.dev = .closed then 0 else ((s.ring.head.toNat : Int) - s.ring.tail.toNat) % 2 ^ 32) ∧
    (let w := readCsr s .lastSeq
     w.toNat % 2 ^ 16 = s.capt.lastSeq.toNat ∧ w.getLsbD 16 = s.capt.lastValid ∧ w.toNat < 2 ^ 17) ∧
    (let w := readCsr s .calState
     w.toNat % 4 =
        (match s.cal.fsm with | .idle => 0 | .measuringBias => 1 | .binarySearching => 2 | .converged => 3) ∧
      w.toNat / 4 % 4 = s.cal.stateCh.toNat ∧ w.toNat / 2 ^ 4 % 2 ^ 4 = 0 ∧
      w.toNat / 2 ^ 8 % 256 = s.cal.err.number ∧ w.toNat < 2 ^ 16) ∧
    (readCsr s .calLow).toNat = s.cal.low.toNat ∧ (readCsr s .calHigh).toNat = s.cal.high.toNat ∧
    readCsr s .calIter = s.cal.iter ∧
    (let w := readCsr s .calShot
     w.toNat % 2 ^ 16 = s.cal.shotCount.toNat ∧ w.toNat / 2 ^ 16 = s.cal.curTap.toNat) ∧
    (∀ ch : Chan,
      let w := readCsr s (.resTap ch)
      w.toNat % 2 ^ 16 = (s.cal.res.get ch).tap.toNat ∧ w.toNat / 2 ^ 16 % 2 ^ 15 = 0 ∧
        w.getLsbD 31 = (s.cal.res.get ch).valid ∧ readCsr s (.resOffset ch) = (s.cal.res.get ch).offset) ∧
    let w := readCsr s .status
    w.toNat % 4 = (match s.life.dev with | .closed => 0 | .opened => 1 | .closing => 2) ∧
    w.getLsbD 2 = s.capt.ready ∧ w.getLsbD 3 = s.life.fatal ∧
    (w.getLsbD 4 = true ↔ s.cal.fsm = .measuringBias ∨ s.cal.fsm = .binarySearching) ∧
    w.toNat / 32 % 4 = (match s.life.lock with | .free => 0 | .cal => 1 | .comp => 2) ∧
    (w.getLsbD 7 = true ↔ s.capt.dr ≠ .idle) ∧
    w.getLsbD 8 = s.sticky.ovf ∧ w.getLsbD 9 = s.sticky.normRange ∧ w.getLsbD 10 = s.sticky.chRange ∧
    w.getLsbD 11 = s.sticky.busErr ∧ w.getLsbD 12 = s.sticky.rbOvf ∧ w.getLsbD 13 = s.life.compRun ∧
    (w.getLsbD 14 = true ↔ s.capt.mode = .irq) ∧ w.toNat < 2 ^ 15

/-- The word of a 64-bit register at the lower offset holds bits[31:0], the word at the next offset bits[63:32]
(spec/20_memory.md R64, spec/30_encoding.md R92), for every 64-bit register and channel; and the operand sets A, B and R
with their bases, their 64-bit utc, `COARSE`, `FRAC` and `META` (spec/10_state.md R31, spec/30_encoding.md R91). -/
def Obligations.RegisterPairsAndOperandSets : Prop :=
  (∀ (s : State) (p : (Half → Csr) × (State → BitVec 64)) (ch : Chan),
    p ∈ [(fun h => .opA (.utc h), fun s => s.tvu.a.utc), (fun h => .opB (.utc h), fun s => s.tvu.b.utc),
        (fun h => .opR (.utc h), fun s => s.tvu.r.utc),
        (.psIn, fun s => s.tvu.psIn), (.psOut, fun s => s.tvu.psOut), (.rbHead, fun s => s.ring.head),
        (.rbTail, fun s => s.ring.tail), (.dropped, fun s => s.capt.dropped), (.lost, fun s => s.capt.lost),
        (.delivered, fun s => s.capt.delivered), (.calBias, fun s => s.cal.bias),
        (.calMin, fun s => s.cal.runMin), (.calMax, fun s => s.cal.runMax),
        (.polyC0, fun s => s.cfg.polyC0), (.polyC1, fun s => s.cfg.polyC1), (.polyC2, fun s => s.cfg.polyC2),
        (.zeroOff ch, fun s => s.cfg.zeroOff.get ch), (.userOff ch, fun s => s.cfg.userOff.get ch),
        (.resDelay ch, fun s => (s.cal.res.get ch).delay)] →
    (p.2 s).toNat = (readCsr s (p.1 .hi)).toNat * 2 ^ 32 + (readCsr s (p.1 .lo)).toNat ∧
      (p.1 .hi).offset = (p.1 .lo).offset + 4) ∧
  ∀ (s : State) (p : Nat × (TvWord → Csr) × TimeValue),
    p ∈ [(0x020, .opA, s.tvu.a), (0x040, .opB, s.tvu.b), (0x060, .opR, s.tvu.r)] →
    let r := p.2.1
    let v := p.2.2
    let m := readCsr s (r .metaWord)
    (r (.utc .lo)).offset = p.1 ∧ (r .coarse).offset = p.1 + 0x08 ∧ (r .frac).offset = p.1 + 0x0C ∧
      (r .metaWord).offset = p.1 + 0x10 ∧
      (readCsr s (r .coarse)).toNat = v.coarse.toNat ∧ (readCsr s (r .frac)).toNat = v.frac.toNat ∧
      m.toNat % 2 ^ 16 = v.seq.toNat ∧ m.toNat / 2 ^ 16 = v.channel.toNat

/-! ## The TimeValue unit -/

/-- `tv.norm` (spec/40_timevalue.md R114, R116). In the range band of R115 R holds the literal value and `ST_NORMRANGE` is
set; that the model takes R115's fault as a record of its own and not as a stop is its choice (log 4). -/
def Obligations.TvNormResult : Prop :=
  encode .tvNorm = some 0x00000001#32 ∧ ∀ s : State,
    let a := s.tvu.a
    let raw := a.coarse.toNat < 2 ^ 28 ∧ a.frac.toNat < 4096
    (raw → ∃ (c : Nat) (u : Int),
      ((a.coarse.getLsbD 27 = true ∧ c = (a.coarse.toNat + 125000000) % 2 ^ 28 ∧ u = a.utc.toInt - 1) ∨
        (a.coarse.getLsbD 27 = false ∧ 125000000 ≤ a.coarse.toNat ∧ c = a.coarse.toNat - 125000000 ∧
          u = a.utc.toInt + 1) ∨
        (a.coarse.getLsbD 27 = false ∧ a.coarse.toNat < 125000000 ∧ c = a.coarse.toNat ∧ u = a.utc.toInt)) ∧
      exec .tvNorm s = .next
        { s with
          errCode := .ok
          errOp := 0x01#8
          tvu := { s.tvu with r := ⟨BitVec.ofInt 64 u, BitVec.ofNat 32 c, a.frac, a.channel, a.seq⟩ }
          sticky :=
            { s.sticky with
              ovf := s.sticky.ovf || decide (u < -2 ^ 63 ∨ 2 ^ 63 ≤ u)
              normRange := s.sticky.normRange || decide (125000000 ≤ c) }
          rangeFault := s.rangeFault || decide (125000000 ≤ c) }) ∧
    (¬ raw → exec .tvNorm s = .next { s with errCode := .domain, errOp := 0x01#8 })

/-- The band of raw coarse counts that `Normalize` leaves out of range, and what it makes of every other one
(spec/40_timevalue.md R115). In the band the fault is taken and no command uses the value: with it as A, `tv.add`, `tv.sub`
and `tv.t2p` give DOMAIN and change nothing else (spec/90_conflicts.md C1). That the fault is a record of the model's own
and not a stop is its choice (log 4). -/
def Obligations.NormalizeRangeBand : Prop :=
  ∀ s : State, s.tvu.a.coarse.toNat < 2 ^ 28 → s.tvu.a.frac.toNat < 4096 →
    let band := 0x8000000 ≤ s.tvu.a.coarse.toNat ∧ s.tvu.a.coarse.toNat < 0x88CA6C0
    ∃ t, exec .tvNorm s = .next t ∧
      (band → t.sticky.normRange = true ∧ t.rangeFault = true ∧ 259217728 ≤ t.tvu.r.coarse.toNat ∧
        t.tvu.r.coarse.toNat ≤ 268435455 ∧
        ∀ v : State, v.tvu.a = t.tvu.r →
          exec .tvAdd v = .next { v with errCode := .domain, errOp := 0x02#8 } ∧
          exec .tvSub v = .next { v with errCode := .domain, errOp := 0x03#8 } ∧
          exec .tvT2p v = .next { v with errCode := .domain, errOp := 0x05#8 }) ∧
      (¬ band → t.sticky.normRange = s.sticky.normRange ∧ t.rangeFault = s.rangeFault ∧
        t.tvu.r.coarse.toNat < 125000000 ∧ t.tvu.r.frac.toNat < 4096)

/-- `tv.add` (spec/40_timevalue.md R117, R118): the carries k1 and k2, and a normalized result. -/
def Obligations.TvAddResult : Prop :=
  encode .tvAdd = some 0x00000002#32 ∧ ∀ s : State,
    let a := s.tvu.a
    let b := s.tvu.b
    let normal := (a.coarse.toNat < 125000000 ∧ a.frac.toNat < 4096) ∧
      (b.coarse.toNat < 125000000 ∧ b.frac.toNat < 4096)
    (normal → ∃ (f c k1 k2 : Nat) (u : Int), k1 ≤ 1 ∧ k2 ≤ 1 ∧ f < 4096 ∧ c < 125000000 ∧
      a.frac.toNat + b.frac.toNat = f + 4096 * k1 ∧
      a.coarse.toNat + b.coarse.toNat + k1 = c + 125000000 * k2 ∧ u = a.utc.toInt + b.utc.toInt + k2 ∧
      exec .tvAdd s = .next
        { s with
          errCode := .ok
          errOp := 0x02#8
          tvu :=
            { s.tvu with
              r := ⟨BitVec.ofInt 64 u, BitVec.ofNat 32 c, BitVec.ofNat 16 f, a.channel, a.seq⟩ }
          sticky := { s.sticky with ovf := s.sticky.ovf || decide (u < -2 ^ 63 ∨ 2 ^ 63 ≤ u) } }) ∧
    (¬ normal → exec .tvAdd s = .next { s with errCode := .domain, errOp := 0x02#8 })

/-- `tv.sub` (spec/40_timevalue.md R119, R120): the borrows b1 and b2, and a normalized result. -/
def Obligations.TvSubResult : Prop :=
  encode .tvSub = some 0x00000003#32 ∧ ∀ s : State,
    let a := s.tvu.a
    let b := s.tvu.b
    let normal := (a.coarse.toNat < 125000000 ∧ a.frac.toNat < 4096) ∧
      (b.coarse.toNat < 125000000 ∧ b.frac.toNat < 4096)
    (normal → ∃ (f c b1 b2 : Nat) (u : Int), b1 ≤ 1 ∧ b2 ≤ 1 ∧ f < 4096 ∧ c < 125000000 ∧
      a.frac.toNat + 4096 * b1 = b.frac.toNat + f ∧
      a.coarse.toNat + 125000000 * b2 = b.coarse.toNat + b1 + c ∧ u = a.utc.toInt - b.utc.toInt - b2 ∧
      exec .tvSub s = .next
        { s with
          errCode := .ok
          errOp := 0x03#8
          tvu :=
            { s.tvu with
              r := ⟨BitVec.ofInt 64 u, BitVec.ofNat 32 c, BitVec.ofNat 16 f, a.channel, a.seq⟩ }
          sticky := { s.sticky with ovf := s.sticky.ovf || decide (u < -2 ^ 63 ∨ 2 ^ 63 ≤ u) } }) ∧
    (¬ normal → exec .tvSub s = .next { s with errCode := .domain, errOp := 0x03#8 })

/-- `tv.p2t` (spec/40_timevalue.md R121, R122): the picoseconds are utc seconds, coarse cycles of 8000 ps and r ps, with
floor division, and r gives the fraction. -/
def Obligations.TvP2tResult : Prop :=
  encode .tvP2t = some 0x00000004#32 ∧ ∀ s : State, ∃ (u : Int) (c r : Nat),
    c < 125000000 ∧ r < 8000 ∧ -9223373 ≤ u ∧ u ≤ 9223373 ∧
    s.tvu.psIn.toInt = u * 1000000000000 + c * 8000 + r ∧ r * 4096 / 8000 < 4096 ∧
    exec .tvP2t s = .next
      { s with
        errCode := .ok
        errOp := 0x04#8
        tvu :=
          { s.tvu with
            r := ⟨BitVec.ofInt 64 u, BitVec.ofNat 32 c, BitVec.ofNat 16 (r * 4096 / 8000), 0#8, 0#16⟩ } }

/-- `tv.t2p` (spec/40_timevalue.md R123, R124), with the ranges of R124 in which the exact value leaves `s64`. -/
def Obligations.TvT2pResult : Prop :=
  encode .tvT2p = some 0x00000005#32 ∧ ∀ s : State,
    let a := s.tvu.a
    let normal := a.coarse.toNat < 125000000 ∧ a.frac.toNat < 4096
    let x : Int := a.coarse.toNat * 8000 + (a.frac.toNat : Int) * 8000 / 4096
    let u := a.utc.toInt
    (normal → 0 ≤ x ∧ x < 1000000000000 ∧
      exec .tvT2p s = .next
        { s with
          errCode := .ok
          errOp := 0x05#8
          tvu := { s.tvu with psOut := BitVec.ofInt 64 (u * 1000000000000 + x) }
          sticky :=
            { s.sticky with
              ovf := s.sticky.ovf || decide (9223373 ≤ u ∨ u ≤ -9223374 ∨
                (u = 9223372 ∧ 36854775808 ≤ x) ∨ (u = -9223373 ∧ x < 963145224192)) } }) ∧
    (¬ normal → exec .tvT2p s = .next { s with errCode := .domain, errOp := 0x05#8 })

/-- The round-trip law (spec/40_timevalue.md R125, law 2): with A a normalized sample and B an offset, `tv.add` and then
`tv.sub` of the sum give A back; a sample of the band of R115 is refused. -/
def Obligations.RoundTripLaw : Prop :=
  ∀ (s : State) (x : TimeValue), x.coarse.toNat < 2 ^ 28 → x.frac.toNat < 4096 →
    s.tvu.a = (timeNormalize x).val → s.tvu.b.coarse.toNat < 125000000 → s.tvu.b.frac.toNat < 4096 →
    ((timeNormalize x).nr = false → ∃ t v, exec .tvAdd s = .next t ∧
      exec .tvSub { t with tvu := { t.tvu with a := t.tvu.r } } = .next v ∧ v.tvu.r = s.tvu.a) ∧
    ((timeNormalize x).nr = true → exec .tvAdd s = .next { s with errCode := .domain, errOp := 0x02#8 })

/-- Exactness and the loss bound of the picosecond conversions (spec/40_timevalue.md R125, laws 3 and 4). -/
def Obligations.PicoRoundTrips : Prop :=
  (∀ ps : BitVec 64,
    let e := timeToPicoExact (picoToTime ps)
    0 ≤ ps.toInt - e ∧ ps.toInt - e ≤ 2 ∧ (BitVec.ofInt 64 e = ps ↔ ps.toInt % 8000 % 125 = 0)) ∧
  ∀ t : TimeValue, t.coarse.toNat < 125000000 → t.frac.toNat < 4096 →
    let e := timeToPicoExact t
    let v := picoToTime (BitVec.ofInt 64 e)
    (v.utc = t.utc ∧ v.coarse = t.coarse ∧ v.frac = t.frac) ↔
      (t.frac.toNat % 64 = 0 ∧ -2 ^ 63 ≤ e ∧ e < 2 ^ 63)

/-! ## The ring -/

/-- `rb.new` (spec/41_ringbuffer.md R132) accepts the powers of two from 2 to 2^RB_CAP_MAX_LOG2, a parameter (log 5).
That a rejected capacity is reported with `dev.open`'s OP is the model's choice for `rb.new` on its own (log 15). -/
def Obligations.RbNewAcceptsPowersOfTwo : Prop :=
  ∀ s : State,
    let legal := ∃ n, 1 ≤ n ∧ n ≤ Config.rbCapMaxLog2 ∧ s.cfg.rbCap.toNat = 2 ^ n
    (legal → exec .rbNew s = .next
      { s with
        ring :=
          { s.ring with cap := some (s.cfg.rbCap.setWidth 64), slots := [], head := 0#64, tail := 0#64 } }) ∧
    (¬ legal → exec .rbNew s = .next { s with errCode := .config, errOp := 0x10#8 })

/-- `rb.push` and its overflow handling (spec/41_ringbuffer.md R133, R134), in every state with storage. That `rb.push` on
its own adds to `DROPPED` and sets `ST_RBOVF`, which R134 gives to the drainer, and that its result stands in `ring.ret`,
is the model's choice (log 11). -/
def Obligations.RbPushResult : Prop :=
  ∀ (s : State) (x : RawSample) (c : BitVec 64), s.ring.cap = some c → c ≠ 0#64 →
    ∃ t, exec (.rbPush x) s = .next t ∧
      t =
        { s with
          ring := t.ring
          sticky := { s.sticky with rbOvf := t.sticky.rbOvf }
          capt := { s.capt with dropped := t.capt.dropped } } ∧
      t.ring.cap = some c ∧ t.ring.head = s.ring.head + 1#64 ∧
      (∀ j, Memory.read t.ring.slots j =
        if j = s.ring.head.toNat % c.toNat then some x else Memory.read s.ring.slots j) ∧
      (c.toNat ≤ (t.ring.head - s.ring.tail).toNat →
        t.ring.tail = s.ring.tail + c / 2#64 ∧ t.ring.ret = .overflow (c / 2#64) ∧
          t.capt.dropped = s.capt.dropped + c / 2#64 ∧ t.sticky.rbOvf = true) ∧
      ((t.ring.head - s.ring.tail).toNat < c.toNat →
        t.ring.tail = s.ring.tail ∧ t.ring.ret = .ok ∧ t.capt.dropped = s.capt.dropped ∧
          t.sticky.rbOvf = s.sticky.rbOvf)

/-- The push laws (spec/41_ringbuffer.md R135), under the ring's invariant. -/
def Obligations.PushKeepsRingBound : Prop :=
  ∀ (s : State) (x : RawSample) (c : BitVec 64), RingInv s → s.ring.cap = some c →
    (∀ i, i < s.ring.occupancy.toNat → s.ring.liveIndex c i ≠ slotIndex s.ring.head c) ∧
    ∃ t, exec (.rbPush x) s = .next t ∧ t.ring.head = s.ring.head + 1#64 ∧
      1 ≤ t.ring.occupancy.toNat ∧ t.ring.occupancy.toNat + 1 ≤ c.toNat ∧
      (t.ring.ret = .overflow (c / 2#64) → t.ring.occupancy.toNat = c.toNat / 2)

/-- `rb.pop` (spec/41_ringbuffer.md R136), in every state with storage whose tail slot is written. `ring.ret` is the
model's record of what it returns (log 11). -/
def Obligations.RbPopResult : Prop :=
  ∀ (s : State) (c : BitVec 64), s.ring.cap = some c → c ≠ 0#64 →
    (s.ring.tail = s.ring.head → exec .rbPop s = .next { s with ring := { s.ring with ret := .empty } }) ∧
    (s.ring.tail ≠ s.ring.head → ∀ x, Memory.read s.ring.slots (s.ring.tail.toNat % c.toNat) = some x →
      exec .rbPop s = .next
        { s with ring := { s.ring with tail := s.ring.tail + 1#64, ret := .sample x } })

/-- Where the ring operations stop: no storage (spec/41_ringbuffer.md R139), or a pop of a slot no push has written
(spec/10_state.md R51). The names of the faults are the model's (log 14). -/
def Obligations.RingStops : Prop :=
  ∀ s : State,
    (s.ring.cap = none → (∀ x, exec (.rbPush x) s = .fault .ringAbsent) ∧ exec .rbPop s = .fault .ringAbsent) ∧
    (∀ c, s.ring.cap = some c → c ≠ 0#64 → s.ring.tail ≠ s.ring.head →
      Memory.read s.ring.slots (s.ring.tail.toNat % c.toNat) = none →
      exec .rbPop s = .fault .unwrittenSlot)

/-- The ring is a bounded FIFO (spec/41_ringbuffer.md R133 to R136): a push appends, and drops the oldest half when it
reaches the capacity; a pop takes the oldest. -/
def Obligations.RingIsBoundedFifo : Prop :=
  ∀ (s : State) (c : BitVec 64), RingInv s → s.ring.cap = some c →
    (∀ x, ∃ t, exec (.rbPush x) s = .next t ∧
      t.ring.contents c =
        (s.ring.contents c ++ [some x]).drop
          (if (s.ring.contents c).length + 1 = c.toNat then c.toNat / 2 else 0)) ∧
    (s.ring.contents c = [] → ∃ t, exec .rbPop s = .next t ∧ t.ring.ret = .empty ∧ t.ring.contents c = []) ∧
    (∀ y l, s.ring.contents c = y :: l → ∃ x t, y = some x ∧ exec .rbPop s = .next t ∧
      t.ring.ret = .sample x ∧ t.ring.contents c = l)

/-! ## Capture -/

/-- What starts a drain: a tick in polled mode (spec/42_capture.md R149), the pending interrupt in interrupt mode (R150),
each only while OPEN and idle; a tick that starts none is discarded. That a top-half which is not enabled changes nothing
is log 2. -/
def Obligations.DrainStarts : Prop :=
  ∀ s : State,
    let tick := s.life.dev = .opened ∧ s.capt.mode = .poll ∧ s.capt.dr = .idle
    let irq := s.card.irqPend = true ∧ s.life.dev = .opened ∧ s.capt.mode = .irq ∧ s.capt.dr = .idle
    (tick → exec .capTick s = .next
      { s with capt := { s.capt with dr := .active, drCtx := .poll, drPushed := 0#64 } }) ∧
    (¬ tick → exec .capTick s = .next s) ∧
    (irq → exec .capIrq s = .next
      { s with capt := { s.capt with dr := .active, drCtx := .irq, drPushed := 0#64 } }) ∧
    (¬ irq → exec .capIrq s = .next s)

/-- One drain iteration (spec/42_capture.md R147): on an empty card FIFO one `FIFO_CSR` read and FINISH; else the head
tuple is read in the order of spec/20_memory.md R67, leaves the card FIFO, and is pushed as `rb.push` does. That
`dr_pushed` wraps at 2^64 is the model's choice (log 27). -/
def Obligations.DrainStepReadsAndPushes : Prop :=
  ∀ s : State, s.capt.dr = .active →
    (s.card.fifo = [] → ∃ v : Word, v.getLsbD 0 = true ∧
      exec .capDrainStep s = .next
        { s with capt := { s.capt with dr := .finish }, port := s.port ++ [.read .fifoCsr v] }) ∧
    (∀ (p : CardTuple) (q : List CardTuple) (c : BitVec 64), s.card.fifo = p :: q → s.ring.cap = some c →
      c ≠ 0#64 → ∃ (v : Word) (x : RawSample) (t : State), v.getLsbD 0 = false ∧
        x.utc = p.utcHi ++ p.utcLo ∧ x.coarse.toNat = p.coarse.toNat % 2 ^ 28 ∧
        x.frac.toNat = p.frac.toNat % 4096 ∧ x.channel.toNat = p.metaWord.toNat / 2 ^ 16 % 256 ∧
        x.seq.toNat = p.metaWord.toNat % 2 ^ 16 ∧
        exec (.rbPush x)
          { s with
            card := { s.card with fifo := q }
            port := s.port ++ [.read .fifoCsr v, .read .fifoUtcHi p.utcHi, .read .fifoUtcLo p.utcLo,
              .read .fifoCoarse p.coarse, .read .fifoFrac p.frac, .read .fifoMeta p.metaWord] } = .next t ∧
        exec .capDrainStep s = .next { t with capt := { t.capt with drPushed := t.capt.drPushed + 1#64 } })

/-- The finish of a drain (spec/42_capture.md R151): in IRQ context the acknowledge and the re-check, which resumes the
drain if a tuple is there; else READY if the drain pushed, and IDLE. -/
def Obligations.DrainFinishAcknowledges : Prop :=
  ∀ s : State, s.capt.dr = .finish →
    let ready := s.capt.ready || decide (0 < s.capt.drPushed.toNat)
    (s.capt.drCtx = .poll → exec .capDrainFinish s = .next
      { s with capt := { s.capt with ready := ready, dr := .idle } }) ∧
    (s.capt.drCtx = .irq → s.card.fifo = [] → ∃ v : Word, v.getLsbD 0 = true ∧
      exec .capDrainFinish s = .next
        { s with
          card := { s.card with irqPend := false }
          port := s.port ++ [.write .irqAck 1#32, .read .fifoCsr v]
          capt := { s.capt with ready := ready, dr := .idle } }) ∧
    (s.capt.drCtx = .irq → s.card.fifo ≠ [] → ∃ v : Word, v.getLsbD 0 = false ∧
      exec .capDrainFinish s = .next
        { s with
          card := { s.card with irqPend := false }
          port := s.port ++ [.write .irqAck 1#32, .read .fifoCsr v]
          capt := { s.capt with dr := .active } })

/-- No drain starts outside OPEN (spec/42_capture.md R146, R159): a step after which the drainer has left IDLE leaves the
device OPEN. -/
def Obligations.NoDrainStartsOutsideOpen : Prop :=
  ∀ s t : State, step s = .next t → s.capt.dr = .idle → t.capt.dr ≠ .idle →
    t.life.dev = .opened ∧ t.capt.dr = .active

/-- One delivery (spec/42_capture.md R155): the popped sample is normalized; out of range, it is emitted flagged NR; with
a channel of 4 or more, flagged CR; else both offsets of its channel are added. A time out of
range is the fault of spec/40_timevalue.md R115; that the model takes it as a record of its own and not as a stop is its
choice (log 4). -/
def Obligations.CapDeliverEmitsRecord : Prop :=
  ∀ (s : State) (c : BitVec 64) (x : RawSample), s.life.dev = .opened → s.ring.head ≠ s.ring.tail →
    s.ring.cap = some c → c ≠ 0#64 → Memory.read s.ring.slots (s.ring.tail.toNat % c.toNat) = some x →
    x.coarse.toNat < 2 ^ 28 → x.frac.toNat < 4096 →
    let n := timeNormalize x
    (n.nr = true → exec .capDeliver s = .next (s.delivered x n.val true false n.ov)) ∧
    (n.nr = false → 4 ≤ x.channel.toNat →
      exec .capDeliver s = .next (s.delivered x n.val false true n.ov)) ∧
    (n.nr = false → ∀ ch : Chan, x.channel.toNat = ch.toNat →
      let z := timeAdd n.val (picoToTime (s.cfg.zeroOff.get ch))
      let v := timeAdd z.val (picoToTime (s.cfg.userOff.get ch))
      exec .capDeliver s = .next (s.delivered x v.val false false (n.ov || z.ov || v.ov)))

/-- The sequence gap (spec/42_capture.md R154): the record of a delivery carries the number of sequence numbers missing,
modulo 65536, `LOST` grows by it, and `LAST_SEQ` becomes the sample's. -/
def Obligations.SequenceGap : Prop :=
  ∀ (s : State) (c : BitVec 64) (x : RawSample), s.life.dev = .opened → s.ring.head ≠ s.ring.tail →
    s.ring.cap = some c → c ≠ 0#64 → Memory.read s.ring.slots (s.ring.tail.toNat % c.toNat) = some x →
    x.coarse.toNat < 2 ^ 28 → x.frac.toNat < 4096 →
    ∃ t r, exec .capDeliver s = .next t ∧ t.capt.out = s.capt.out ++ [r] ∧
      (r.gap.toNat : Int) =
        (if s.capt.lastValid = true then ((x.seq.toNat : Int) - s.capt.lastSeq.toNat - 1) % 65536 else 0) ∧
      t.capt.lost.toNat = (s.capt.lost.toNat + r.gap.toNat) % 2 ^ 64 ∧ t.capt.lastSeq = x.seq ∧
      t.capt.lastValid = true

/-- The output stream is append-only until reset, one step emits at most one record (spec/42_capture.md R157), and only
while OPEN with a sample in the ring (R153, R159, spec/44_device.md R220). -/
def Obligations.StreamAppendOnly : Prop :=
  ∀ s t : State, step s = .next t → s.sched.head? ≠ some .reset →
    t.capt.out = s.capt.out ∨
      (s.sched.head? = some .deliverer ∧ s.life.dev = .opened ∧ s.ring.head ≠ s.ring.tail ∧
        ∃ r, t.capt.out = s.capt.out ++ [r])

/-- Every step keeps these: a record without the flag NR is a normalized time (spec/40_timevalue.md R115, R125 law 1); and,
unless the model has taken the fault of R115, R and every record are normalized and no record is flagged NR. Only reset
takes the fault back. That the fault is a record of the model's own and not a stop is its choice (log 4). -/
def Obligations.StreamNormalizedKept : Prop :=
  ∀ s t : State, step s = .next t →
    (StreamNormalized s → StreamNormalized t) ∧ (NormalizedUnlessFault s → NormalizedUnlessFault t) ∧
      (s.rangeFault = true → s.sched.head? ≠ some .reset → t.rangeFault = true)

/-- The card's interrupt latch (spec/20_memory.md R68). -/
def Obligations.CardInterruptLatch : Prop :=
  (∀ (s : State) (rest : List Event) (p : CardTuple), s.sched = .envFifo p :: rest →
    (s.card.fifo = [] → s.card.irqEn = true →
      step s = .next { s with sched := rest, card := { s.card with fifo := [p], irqPend := true } }) ∧
    (s.card.fifo ≠ [] ∨ s.card.irqEn = false →
      step s = .next { s with sched := rest, card := { s.card with fifo := s.card.fifo ++ [p] } })) ∧
  (∀ s : State, (s.dwrite .irqAck 1#32).card.irqPend = false ∧ (s.dwrite .irqEn 0#32).card.irqPend = false) ∧
  (∀ s : State, s.card.irqPend = true → s.life.dev = .opened → s.capt.mode = .irq → s.capt.dr = .idle →
    ∃ t, exec .capIrq s = .next t ∧ t.capt.dr = .active) ∧
  State.reset.card.irqEn = false ∧ State.reset.card.irqPend = false

/-! ## The calibrator -/

/-- `cal.start` that succeeds (spec/43_calibrator.md R177, R180, R181): the latched parameters, the lock, and the bias
point begun. The bound on `CAL_N` is a parameter (log 5). -/
def Obligations.CalStartBeginsRun : Prop :=
  ∀ (s : State) (ch : BitVec 4) (k : Chan), s.life.fatal = false → s.life.dev = .opened →
    s.cal.fsm = .idle ∨ s.cal.fsm = .converged → ch.toNat = k.toNat →
    (∃ n, n ≤ Config.calNMaxLog2 ∧ s.cfg.calN.toNat = 2 ^ n) → s.cfg.scaleDen ≠ 0#32 → s.cfg.binFp ≠ 0#32 →
    s.cfg.waitMax ≠ 0#32 → s.card.selftestOk = true → s.life.lock = .free →
    exec (.calStart ch) s = .next
      { s with
        errCode := .ok
        errOp := 0x20#8
        life := { s.life with lock := .cal }
        cal :=
          { s.cal with
            nL := s.cfg.calN
            numL := s.cfg.scaleNum
            denL := s.cfg.scaleDen
            binL := s.cfg.binFp
            waitL := s.cfg.waitMax
            c0L := s.cfg.polyC0
            c1L := s.cfg.polyC1
            c2L := s.cfg.polyC2
            calCh := k
            stateCh := k
            err := .ok
            fsm := .measuringBias
            phase := .bias
            iter := 0#32
            low := 0#16
            high := 1023#16
            bias := 0#64
            curTap := 0#16
            shotCount := 0#16
            acc := 0#64
            runMin := BitVec.ofInt 64 (2 ^ 63 - 1)
            runMax := BitVec.ofInt 64 (-2 ^ 63) } }

/-- The errors of `cal.start` in their precedence (spec/60_exceptions.md R238): STATE, BUSY, CONFIG, HW_FAULT with the
effect of R240 and spec/44_device.md R221, and BUSY for the lock. The bound on `CAL_N` is a parameter (log 5). -/
def Obligations.CalStartErrors : Prop :=
  ∀ (s : State) (ch : BitVec 4),
    let error := fun code => ({ s with errCode := code, errOp := 0x20#8 } : State)
    let config := 4 ≤ ch.toNat ∨ (¬ ∃ n, n ≤ Config.calNMaxLog2 ∧ s.cfg.calN.toNat = 2 ^ n) ∨ s.cfg.scaleDen = 0#32 ∨
      s.cfg.binFp = 0#32 ∨ s.cfg.waitMax = 0#32
    ((s.life.fatal = true ∨ s.life.dev ≠ .opened) → exec (.calStart ch) s = .next (error .state)) ∧
    (s.life.fatal = false → s.life.dev = .opened →
      ((s.cal.fsm = .measuringBias ∨ s.cal.fsm = .binarySearching) →
        exec (.calStart ch) s = .next (error .busy)) ∧
      (s.cal.fsm = .idle ∨ s.cal.fsm = .converged →
        (config → exec (.calStart ch) s = .next (error .config)) ∧
        (¬ config → s.card.selftestOk = false → exec (.calStart ch) s = .next
          { error .hwFault with
            cal := { s.cal with err := .hwFault }
            life := { s.life with fatal := true, dev := .closing, phase := .stopCapture } }) ∧
        (¬ config → s.card.selftestOk = true → s.life.lock ≠ .free →
          exec (.calStart ch) s = .next (error .busy))))

/-- A shot (spec/43_calibrator.md R178, R184, R185, R186) whose TDC is not ready for the polls `ws` and then answers the
result w2: the five writes, the polls and the result read on the port, and the result scaled and accumulated. -/
def Obligations.CalShotAccumulates : Prop :=
  ∀ (s : State) (ws rest : List Word) (w1 w2 : Word),
    s.cal.fsm = .measuringBias ∨ s.cal.fsm = .binarySearching →
    s.cal.phase = .bias ∨ s.cal.phase = .search → s.cal.shotCount.toNat < s.cal.nL.toNat →
    s.cal.denL ≠ 0#32 → s.card.tdcDraws = ws ++ w1 :: w2 :: rest → (∀ w ∈ ws, notReady w) →
    w1.getLsbD 1 = false → w1.getLsbD 0 = true → ws.length < s.cal.waitL.toNat →
    ∃ (v : Nat) (t : State),
      let ps : BitVec 64 := BitVec.ofInt 64 v
      let sum : Int := s.cal.acc.toInt + ps.toInt
      v * (s.cal.denL.toNat * 65536) ≤ w2.toNat % 2 ^ 17 * s.cal.numL.toNat * s.cal.binL.toNat ∧
      w2.toNat % 2 ^ 17 * s.cal.numL.toNat * s.cal.binL.toNat < (v + 1) * (s.cal.denL.toNat * 65536) ∧
      exec .calShot s = .next t ∧
      t =
        { s with
          card := s.card.afterShot s.cal.calCh s.cal.curTap rest
          port := s.port ++ shotWrites s.cal.calCh s.cal.curTap ++ ws.map (.read .tdcStatus) ++
            [.read .tdcStatus w1, .read .tdcResult w2]
          sticky :=
            { s.sticky with
              ovf := s.sticky.ovf || decide (2 ^ 63 ≤ (v : Int)) || decide (sum < -2 ^ 63 ∨ 2 ^ 63 ≤ sum) }
          cal :=
            { s.cal with
              acc := BitVec.ofInt 64 sum
              runMin := t.cal.runMin
              runMax := t.cal.runMax
              shotCount := s.cal.shotCount + 1#16 } } ∧
      t.cal.runMin.toInt = min s.cal.runMin.toInt ps.toInt ∧
      t.cal.runMax.toInt = max s.cal.runMax.toInt ps.toInt

/-- A shot whose TDC reports ERR, or is not ready for `wait_l` polls, aborts the run (spec/43_calibrator.md R185, R197):
MEAS_FAIL or TIMEOUT, the previous valid tap or 0 written back, every result register unchanged, the lock freed. -/
def Obligations.CalShotAborts : Prop :=
  ∀ (s : State) (ws rest : List Word),
    s.cal.fsm = .measuringBias ∨ s.cal.fsm = .binarySearching →
    s.cal.phase = .bias ∨ s.cal.phase = .search → s.cal.shotCount.toNat < s.cal.nL.toNat →
    (∀ w ∈ ws, notReady w) →
    let aborted := fun (code : ErrCode) (reads : List Word) =>
      let back := s.cal.restoredTap
      ({ s with
        card :=
          { s.card.afterShot s.cal.calCh s.cal.curTap rest with
            dlyTap := s.card.dlyTap.set s.cal.calCh (back.setWidth 10) }
        port := s.port ++ shotWrites s.cal.calCh s.cal.curTap ++ reads.map (.read .tdcStatus) ++
          [.write (.dlyTap s.cal.calCh) (back.setWidth 32)]
        cal := { s.cal with err := code, fsm := .idle, phase := .none }
        life := { s.life with lock := .free } } : State)
    (∀ w, s.card.tdcDraws = ws ++ w :: rest → w.getLsbD 1 = true → ws.length < s.cal.waitL.toNat →
      exec .calShot s = .next (aborted .measFail (ws ++ [w]))) ∧
    (s.card.tdcDraws = ws ++ rest → ws.length = s.cal.waitL.toNat →
      exec .calShot s = .next (aborted .timeout ws))

/-- The bias point completes (spec/43_calibrator.md R187, R188): the floor of the average becomes the bias, and the search
begins at the midpoint 511. -/
def Obligations.CalPointCompletesBias : Prop :=
  ∀ s : State, s.cal.fsm = .measuringBias ∨ s.cal.fsm = .binarySearching → s.cal.phase = .bias →
    s.cal.shotCount.toNat = s.cal.nL.toNat → s.cal.nL ≠ 0#32 →
    ∃ avg : BitVec 64, avg.toInt * s.cal.nL.toNat ≤ s.cal.acc.toInt ∧
      s.cal.acc.toInt < (avg.toInt + 1) * s.cal.nL.toNat ∧
      exec .calPoint s = .next
        { s with
          cal :=
            { s.cal with
              bias := avg
              lowDelay := avg
              low := 0#16
              high := 1023#16
              phase := .search
              fsm := .binarySearching
              curTap := 511#16
              shotCount := 0#16
              acc := 0#64
              runMin := BitVec.ofInt 64 (2 ^ 63 - 1)
              runMax := BitVec.ofInt 64 (-2 ^ 63) } }

/-- A search point completes (spec/43_calibrator.md R187, R189): an average less than 8000 ps above the bias moves the
lower bound to the tap, any other the upper bound; the search ends when the bounds are at most 1 apart, else the next
point begins at their midpoint (R182). -/
def Obligations.CalPointMovesBound : Prop :=
  ∀ s : State, s.cal.fsm = .measuringBias ∨ s.cal.fsm = .binarySearching → s.cal.phase = .search →
    s.cal.shotCount.toNat = s.cal.nL.toNat → s.cal.nL ≠ 0#32 →
    ∃ (avg : BitVec 64) (low high : BitVec 16) (delay : BitVec 64),
      avg.toInt * s.cal.nL.toNat ≤ s.cal.acc.toInt ∧
      s.cal.acc.toInt < (avg.toInt + 1) * s.cal.nL.toNat ∧
      (avg.toInt - s.cal.bias.toInt < 8000 → low = s.cal.curTap ∧ delay = avg ∧ high = s.cal.high) ∧
      (8000 ≤ avg.toInt - s.cal.bias.toInt → low = s.cal.low ∧ delay = s.cal.lowDelay ∧ high = s.cal.curTap) ∧
      (high.toNat ≤ low.toNat + 1 → exec .calPoint s = .next
        { s with
          cal :=
            { s.cal with
              low := low, high := high, lowDelay := delay, iter := s.cal.iter + 1#32, phase := .fit } }) ∧
      (low.toNat + 1 < high.toNat → exec .calPoint s = .next
        { s with
          cal :=
            { s.cal with
              low := low
              high := high
              lowDelay := delay
              iter := s.cal.iter + 1#32
              curTap := BitVec.ofNat 16 ((low.toNat + high.toNat) / 2)
              shotCount := 0#16
              acc := 0#64
              runMin := BitVec.ofInt 64 (2 ^ 63 - 1)
              runMax := BitVec.ofInt 64 (-2 ^ 63) } })

/-- The fit (spec/43_calibrator.md R179, R192 to R195): the polynomial p at `TEMP`, floored, the offset tap - p with its
wrap, the tap written to the channel, the result committed, the lock freed. -/
def Obligations.CalFitCommits : Prop :=
  ∀ s : State, s.cal.fsm = .binarySearching → s.cal.phase = .fit →
    let t := s.card.temp.toInt
    let sum := s.cal.c0L.toInt * t * t + s.cal.c1L.toInt * t + s.cal.c2L.toInt
    ∃ p : Int, p * 2 ^ 32 ≤ sum ∧ sum < (p + 1) * 2 ^ 32 ∧
      let off : Int := s.cal.low.toNat - p
      exec .calFit s = .next
        { s with
          sticky := { s.sticky with ovf := s.sticky.ovf || decide (off < -2 ^ 31 ∨ 2 ^ 31 ≤ off) }
          card := { s.card with dlyTap := s.card.dlyTap.set s.cal.calCh (s.cal.low.setWidth 10) }
          port := s.port ++ [.write (.dlyTap s.cal.calCh) (s.cal.low.setWidth 32)]
          life := { s.life with lock := .free }
          cal :=
            { s.cal with
              res := s.cal.res.set s.cal.calCh ⟨true, s.cal.low, BitVec.ofInt 32 off, s.cal.lowDelay⟩
              fsm := .converged
              err := .ok
              phase := .none } }

/-- The search ends (spec/43_calibrator.md R190, R191): every midpoint is in [1, 1022], and each keeps the bounds in
order, strictly shrinks the gap, and is at most the tenth. -/
def Obligations.SearchShrinks : Prop :=
  ∀ s : State, Inv s → s.cal.phase = .search → s.cal.shotCount.toNat = s.cal.nL.toNat →
    1 ≤ s.cal.curTap.toNat ∧ s.cal.curTap.toNat ≤ 1022 ∧
    ∃ t, exec .calPoint s = .next t ∧ s.cal.low.toNat ≤ t.cal.low.toNat ∧ t.cal.high.toNat ≤ s.cal.high.toNat ∧
      t.cal.low.toNat < t.cal.high.toNat ∧
      t.cal.high.toNat - t.cal.low.toNat < s.cal.high.toNat - s.cal.low.toNat ∧
      t.cal.iter.toNat = s.cal.iter.toNat + 1 ∧ t.cal.iter.toNat ≤ 10 ∧
      (t.cal.phase = .fit ↔ t.cal.high.toNat = t.cal.low.toNat + 1)

/-- `RES_*` of a channel change only at convergence on that channel, at `dev.open`, and at reset (spec/10_state.md R43). -/
def Obligations.ResultsWritten : Prop :=
  ∀ (s t : State) (ch : Chan), step s = .next t → t.cal.res.get ch ≠ s.cal.res.get ch →
    s.sched.head? = some .reset ∨
    (s.life.dev = .closed ∧ t.life.dev = .opened ∧ t.cal.res.get ch = CalResult.zero) ∨
    (s.cal.fsm = .binarySearching ∧ s.cal.phase = .fit ∧ ch = s.cal.calCh ∧ t.cal.fsm = .converged ∧
      (t.cal.res.get ch).valid = true ∧ (t.cal.res.get ch).tap = s.cal.low)

/-- What moves the calibration lock (spec/10_state.md R49), and what a write of the compensator does while it holds the
lock and while it does not. That such a write keeps 10 bits and is no transaction of the block's port is log 17; that it
changes nothing without the lock is log 2. -/
def Obligations.LockMoves : Prop :=
  (∀ s t : State, Inv s → step s = .next t → t.life.lock ≠ s.life.lock →
    s.sched.head? = some .reset ∨
    (s.life.lock = .free ∧ t.life.lock = .cal ∧ t.cal.running = true ∧
      ∃ w ch, s.sched.head? = some (.hostWrite 0x004 w) ∧ decode w = .ok (.calStart ch)) ∨
    (s.life.lock = .cal ∧ t.life.lock = .free ∧ s.cal.running = true ∧ t.cal.running = false ∧
      s.sched.head? = some .calibrator) ∨
    (s.life.lock = .free ∧ t.life.lock = .comp ∧ s.life.compRun = true ∧
      s.sched.head? = some .compAcquire) ∨
    (s.life.lock = .comp ∧ t.life.lock = .free ∧ s.sched.head? = some .compRelease)) ∧
  ∀ (s : State) (rest : List Event) (ch : Chan) (w : Word), s.sched = .compWrite ch w :: rest →
    (s.life.lock ≠ .comp → step s = .next { s with sched := rest }) ∧
    (s.life.lock = .comp → step s = .next
      { s with sched := rest, card := { s.card with dlyTap := s.card.dlyTap.set ch (w.setWidth 10) } })

/-! ## The device -/

/-- `nop` writes `ERR` and nothing else, in every state (spec/44_device.md R217). -/
def Obligations.NopWritesErrOnly : Prop :=
  encode .nop = some 0x00000000#32 ∧ ∀ s : State, exec .nop s = .next { s with errCode := .ok, errOp := 0x00#8 }

/-- `dev.open` that succeeds, in polled and in interrupt mode (spec/44_device.md R216). The bound on `RB_CAP` is a
parameter (log 5). -/
def Obligations.DevOpenOpens : Prop :=
  ∀ s : State, s.life.fatal = false → s.life.dev = .closed →
    (∃ n, 1 ≤ n ∧ n ≤ Config.rbCapMaxLog2 ∧ s.cfg.rbCap.toNat = 2 ^ n) →
    let opened : State :=
      { s with
        errCode := .ok
        errOp := 0x10#8
        ring :=
          { s.ring with cap := some (s.cfg.rbCap.setWidth 64), slots := [], head := 0#64, tail := 0#64 }
        capt :=
          { s.capt with
            mode := .poll
            dropped := 0#64
            lost := 0#64
            delivered := 0#64
            lastValid := false
            lastSeq := 0#16
            ready := false
            dr := .idle
            drPushed := 0#64 }
        cal :=
          { s.cal with
            res := ⟨CalResult.zero, CalResult.zero, CalResult.zero, CalResult.zero⟩
            fsm := .idle
            stateCh := .ch0
            err := .ok }
        life := { s.life with compRun := true, dev := .opened } }
    (s.cfg.capMode = false → exec .devOpen s = .next opened) ∧
    (s.cfg.capMode = true → exec .devOpen s = .next
      { opened with
        card := { s.card with irqEn := true }
        port := s.port ++ [.write .irqEn 1#32]
        capt := { opened.capt with mode := .irq, dr := .active, drCtx := .irq } })

/-- `dev.open` that fails changes nothing but `ERR` (spec/44_device.md R216): STATE before CONFIG
(spec/60_exceptions.md R238). The bound on `RB_CAP` is a parameter (log 5). -/
def Obligations.DevOpenErrors : Prop :=
  ∀ s : State,
    ((s.life.fatal = true ∨ s.life.dev ≠ .closed) →
      exec .devOpen s = .next { s with errCode := .state, errOp := 0x10#8 }) ∧
    (s.life.fatal = false → s.life.dev = .closed → (¬ ∃ n, 1 ≤ n ∧ n ≤ Config.rbCapMaxLog2 ∧ s.cfg.rbCap.toNat = 2 ^ n) →
      exec .devOpen s = .next { s with errCode := .config, errOp := 0x10#8 })

/-- `dev.close` (spec/44_device.md R218): idempotent in CLOSED and CLOSING; in OPEN, BUSY during a run, else the teardown
begins. -/
def Obligations.DevCloseResult : Prop :=
  encode .devClose = some 0x00000011#32 ∧ ∀ s : State,
    (s.life.dev ≠ .opened → exec .devClose s = .next { s with errCode := .ok, errOp := 0x11#8 }) ∧
    (s.life.dev = .opened → s.cal.fsm = .measuringBias ∨ s.cal.fsm = .binarySearching →
      exec .devClose s = .next { s with errCode := .busy, errOp := 0x11#8 }) ∧
    (s.life.dev = .opened → s.cal.fsm = .idle ∨ s.cal.fsm = .converged →
      exec .devClose s = .next
        { s with
          errCode := .ok, errOp := 0x11#8, life := { s.life with dev := .closing, phase := .stopCapture } })

/-- The three teardown steps with their guards (spec/44_device.md R219). That a step whose guard fails changes nothing is
log 2. -/
def Obligations.TeardownSteps : Prop :=
  ∀ s : State,
    let stop := s.life.dev = .closing ∧ s.life.phase = .stopCapture ∧ s.capt.dr = .idle
    let comp := s.life.dev = .closing ∧ s.life.phase = .stopComp
    let free := s.life.dev = .closing ∧ s.life.phase = .release ∧ s.life.lock ≠ .comp
    (stop → s.capt.mode = .poll →
      exec .lcStopCapture s = .next { s with life := { s.life with phase := .stopComp } }) ∧
    (stop → s.capt.mode = .irq → exec .lcStopCapture s = .next
      { s with
        card := { s.card with irqEn := false, irqPend := false }
        port := s.port ++ [.write .irqEn 0#32]
        life := { s.life with phase := .stopComp } }) ∧
    (¬ stop → exec .lcStopCapture s = .next s) ∧
    (comp → exec .lcStopComp s = .next { s with life := { s.life with compRun := false, phase := .release } }) ∧
    (¬ comp → exec .lcStopComp s = .next s) ∧
    (free → exec .lcRelease s = .next
      { s with
        ring := { s.ring with cap := none, slots := [] }
        capt := { s.capt with ready := false }
        life := { s.life with dev := .closed, phase := .none } }) ∧
    (¬ free → exec .lcRelease s = .next s)

/-- Only reset clears `FATAL` (spec/70_reset_and_hazards.md R267); while it is 1, `dev.open` and `cal.start` raise STATE
(spec/44_device.md R221). -/
def Obligations.FatalUntilReset : Prop :=
  ∀ s : State, s.life.fatal = true →
    (∀ t, step s = .next t → s.sched.head? ≠ some .reset → t.life.fatal = true) ∧
    exec .devOpen s = .next { s with errCode := .state, errOp := 0x10#8 } ∧
    ∀ ch, exec (.calStart ch) s = .next { s with errCode := .state, errOp := 0x20#8 }

/-! ## Reset and the whole machine -/

/-- The table of spec/70_reset_and_hazards.md R266, after a reset event in any state. The five reset values that
spec/00_scope.md R8 makes parameters are the block's own (log 5); with the spec's defaults they are those of the table.
That the card and the port stay as they are is log 10 (R267, R268); that reset clears the recorded fault is log 4. -/
def Obligations.ResetStateTable : Prop :=
  (let v := Config.resetValues
   ∀ (s : State) (rest : List Event), s.sched = .reset :: rest → ∃ t, step s = .next t ∧
    readCsr t .id = 0x46445443#32 ∧ readCsr t .pollMs = v.pollMs ∧ readCsr t .scaleNum = v.scaleNum ∧
    readCsr t .scaleDen = v.scaleDen ∧ readCsr t .waitMax = v.waitMax ∧ readCsr t .compPeriod = v.compPeriod ∧
    (∀ r : Csr, r ∉ [.id, .pollMs, .scaleNum, .scaleDen, .waitMax, .compPeriod, .inputs] →
      readCsr t r = 0#32) ∧
    readCsr t .inputs = readCsr s .inputs ∧ t.ring.cap = none ∧ t.ring.slots = [] ∧ t.capt.dr = .idle ∧
    t.capt.drCtx = .poll ∧ t.capt.drPushed = 0#64 ∧ t.capt.mode = .poll ∧ t.cal.phase = .none ∧
    t.cal.calCh = .ch0 ∧ t.cal.nL = 0#32 ∧ t.cal.numL = 0#32 ∧ t.cal.denL = 0#32 ∧ t.cal.binL = 0#32 ∧
    t.cal.waitL = 0#32 ∧ t.cal.c0L = 0#64 ∧ t.cal.c1L = 0#64 ∧ t.cal.c2L = 0#64 ∧ t.cal.acc = 0#64 ∧
    t.cal.lowDelay = 0#64 ∧ t.life.phase = .none ∧ t.capt.out = [] ∧ t.rangeFault = false ∧
    t.card = s.card ∧ t.port = s.port) ∧
  (let d := State.resetWith .specDefault
   readCsr d .pollMs = 10#32 ∧ readCsr d .scaleNum = 3#32 ∧ readCsr d .scaleDen = 1#32 ∧
    readCsr d .waitMax = 0x0000FFFF#32 ∧ readCsr d .compPeriod = 30#32) ∧
  ∀ (v : ResetValues) (r : Csr), r ∉ [.pollMs, .scaleNum, .scaleDen, .waitMax, .compPeriod] →
    readCsr (State.resetWith v) r = readCsr (State.resetWith .specDefault) r

/-- The invariants hold right after reset. -/
def Obligations.InvariantsAtReset : Prop :=
  Inv State.reset ∧ NoStrandedTuple State.reset ∧ StreamNormalized State.reset ∧ NormalizedUnlessFault State.reset

/-- Every step keeps the invariant of the ring, the lifecycle and the calibrator (spec/41_ringbuffer.md R131,
spec/44_device.md R222, spec/10_state.md R49, spec/43_calibrator.md R191, R200). -/
def Obligations.InvKept : Prop := ∀ s t : State, Inv s → step s = .next t → Inv t

/-- Under the invariant no step stops, and the next state meets it again: every agent's step and every host access has an
effect (spec/41_ringbuffer.md R139, spec/10_state.md R51, spec/70_reset_and_hazards.md R278). That a sample of the range
band of spec/40_timevalue.md R115 stops no step, but is a fault the model records, is its choice (log 4). -/
def Obligations.NoStepStops : Prop := ∀ s : State, Inv s → ∃ t, step s = .next t ∧ Inv t

/-- Every step keeps this: in interrupt mode, while OPEN, a tuple waiting with the drainer idle has its interrupt pending,
so none is stranded (spec/70_reset_and_hazards.md R271, R272). -/
def Obligations.NoTupleStranded : Prop :=
  ∀ s t : State, Inv s → NoStrandedTuple s → step s = .next t → NoStrandedTuple t

/-- `ERR` changes only in a step that executes a command word, and at reset (spec/60_exceptions.md R237, R258). -/
def Obligations.ErrWrittenByCommandsOnly : Prop :=
  ∀ s t : State, step s = .next t → s.sched.head? ≠ some .reset →
    (∀ w, s.sched.head? ≠ some (.hostWrite 0x004 w)) → t.errCode = s.errCode ∧ t.errOp = s.errOp

/-- No rule of the block reads `POLL_MS` or `COMP_PERIOD_S` (spec/10_state.md R33, R41): other values there change nothing
else an instruction does. -/
def Obligations.TimersUnread : Prop :=
  ∀ (i : Instr) (s t : State) (poll comp : Word), exec i s = .next t →
    exec i (s.withTimers poll comp) = .next (t.withTimers poll comp)

/-- `DRead` and `DWrite` perform one transaction each, at the address `DownstreamMap` gives the register, and change no
state of the block; `DownstreamMap` gives different registers different addresses, of at most `ADDR_W` bits
(spec/20_memory.md R65), whatever the platform's placing (log 6, log 26). That the port is a record of the model's own is
log 12. -/
def Obligations.DownstreamTransactions : Prop :=
  (∀ a b : CardReg, Config.downstreamMap a = Config.downstreamMap b → a = b) ∧
  (∀ r : CardReg, (Config.downstreamMap r).toNat < 2 ^ Config.addrW) ∧
  (∀ (s : State) (r : ReadReg), ∃ (w : Word) (c : Card) (n : Nat), s.dread r =
    (w, { s with card := c, drawCtr := n, port := s.port ++ [.read32 (Config.downstreamMap (.rd r)) w] })) ∧
  ∀ (s : State) (r : WriteReg) (v : Word), ∃ c : Card, s.dwrite r v =
    { s with card := c, port := s.port ++ [.write32 (Config.downstreamMap (.wr r)) v] }
end

