-- ==== Sys2Proof/Laws/Csr.lean ====
section
/-! SUPPORT. The host CSR window: a register stands at its offset, and nothing else stands there. -/

namespace Sys2Proof.Machine

theorem csrAll_at : ∀ r ∈ csrAll, csrAt r.offset = some r := by decide

theorem csrAll_mem (r : Csr) : r ∈ csrAll := by
  cases r <;> (try rename_i x; cases x) <;> (try rename_i y; cases y) <;> decide

/-- The register at a register's offset is that register (spec/20_memory.md R71). -/
@[simp] theorem csrAt_offset (r : Csr) : csrAt r.offset = some r := csrAll_at r (csrAll_mem r)

/-- What stands at an offset is a register of that offset. -/
theorem csrAt_eq_some {off : Nat} {r : Csr} : csrAt off = some r ↔ r.offset = off := by
  constructor
  · intro h
    simpa using List.find?_some h
  · rintro rfl
    exact csrAt_offset r

/-- Nothing stands at an offset exactly when no register has it (spec/20_memory.md R63). -/
theorem csrAt_eq_none {off : Nat} : csrAt off = none ↔ ∀ r : Csr, r.offset ≠ off := by
  constructor
  · intro h r hr
    rw [csrAt_eq_some.mpr hr] at h
    cases h
  · intro h
    cases hc : csrAt off with
    | none => rfl
    | some r => exact absurd (csrAt_eq_some.mp hc) (h r)

/-- Every register stands inside the window, at a multiple of 4 (spec/20_memory.md R61, R62). -/
theorem csr_offset_bound (r : Csr) : r.offset % 4 = 0 ∧ r.offset < 0x400 := by
  have : ∀ r ∈ csrAll, r.offset % 4 = 0 ∧ r.offset < 0x400 := by decide
  exact this r (csrAll_mem r)

end Sys2Proof.Machine
end

