-- ==== Sys2Proof/Laws/Encoding.lean ====
section
/-! SUPPORT. The command word: its three fields, taken apart and put together. -/

namespace Sys2Proof

/-- A word is its three fields (spec/30_encoding.md R86). -/
theorem word_eq_fields (w : Word) : wordRsv w ++ wordCh w ++ wordOpc w = w := by
  unfold wordRsv wordCh wordOpc
  apply BitVec.eq_of_getLsbD_eq
  intro k hk
  rw [BitVec.getLsbD_append, BitVec.getLsbD_append]
  split
  · simp [BitVec.getLsbD_extractLsb']
    omega
  · split
    · rename_i h8 h4
      simp only [BitVec.getLsbD_extractLsb', h4, decide_true, Bool.true_and]
      congr 1
      omega
    · rename_i h8 h4
      have h20 : k - 8 - 4 < 20 := by omega
      simp only [BitVec.getLsbD_extractLsb', h20, decide_true, Bool.true_and]
      congr 1
      omega

/-- The fields of a command word (spec/30_encoding.md R86). -/
theorem commandWord_fields (opc : BitVec 8) (ch : BitVec 4) :
    wordRsv (commandWord opc ch) = 0#20 ∧ wordCh (commandWord opc ch) = ch ∧
      wordOpc (commandWord opc ch) = opc := by
  unfold wordRsv wordCh wordOpc commandWord
  refine ⟨?_, ?_, ?_⟩
  · apply BitVec.eq_of_getLsbD_eq
    intro k hk
    rw [BitVec.getLsbD_extractLsb', BitVec.getLsbD_append, BitVec.getLsbD_append]
    have h1 : ¬ 12 + k < 8 := by omega
    have h2 : ¬ 12 + k - 8 < 4 := by omega
    simp [h1, h2]
  · apply BitVec.eq_of_getLsbD_eq
    intro k hk
    rw [BitVec.getLsbD_extractLsb', BitVec.getLsbD_append, BitVec.getLsbD_append]
    have h1 : ¬ 8 + k < 8 := by omega
    have h2 : 8 + k - 8 = k := by omega
    simp [h2, hk]
  · apply BitVec.eq_of_getLsbD_eq
    intro k hk
    rw [BitVec.getLsbD_extractLsb', BitVec.getLsbD_append]
    simp [hk]

/-- A word with the reserved bits clear is the command word of its other two fields. -/
theorem commandWord_eq {w : Word} (h : wordRsv w = 0#20) : commandWord (wordOpc w) (wordCh w) = w := by
  conv_rhs => rw [← word_eq_fields w, h]
  rfl

/-- The fields of a word as numbers (spec/30_encoding.md R86). -/
theorem wordFields_toNat (w : Word) :
    (wordOpc w).toNat = w.toNat % 256 ∧ (wordCh w).toNat = w.toNat / 256 % 16 ∧
      (wordRsv w).toNat = w.toNat / 4096 := by
  have hw := w.isLt
  unfold wordRsv wordCh wordOpc
  simp only [BitVec.extractLsb'_toNat, Nat.shiftRight_eq_div_pow]
  refine ⟨by simp, by simp, ?_⟩
  have : w.toNat / 2 ^ 12 < 2 ^ 20 := by omega
  rw [Nat.mod_eq_of_lt this, show (2 : Nat) ^ 12 = 4096 from rfl]

end Sys2Proof
end

