-- ==== Sys2Proof/Laws/State.lean ====
section
/-! SUPPORT. What each named update of the state leaves unchanged, one lemma per field, each true by rfl: no later proof
unfolds a record update. -/

namespace Sys2Proof.Machine

/-! `noteOvf` -/

@[simp] theorem noteOvf_cmd (b : Bool) (s : State) : (s.noteOvf b).cmd = s.cmd := rfl
@[simp] theorem noteOvf_errCode (b : Bool) (s : State) : (s.noteOvf b).errCode = s.errCode := rfl
@[simp] theorem noteOvf_errOp (b : Bool) (s : State) : (s.noteOvf b).errOp = s.errOp := rfl
@[simp] theorem noteOvf_sticky_normRange (b : Bool) (s : State) : (s.noteOvf b).sticky.normRange = s.sticky.normRange := rfl
@[simp] theorem noteOvf_sticky_chRange (b : Bool) (s : State) : (s.noteOvf b).sticky.chRange = s.sticky.chRange := rfl
@[simp] theorem noteOvf_sticky_busErr (b : Bool) (s : State) : (s.noteOvf b).sticky.busErr = s.sticky.busErr := rfl
@[simp] theorem noteOvf_sticky_rbOvf (b : Bool) (s : State) : (s.noteOvf b).sticky.rbOvf = s.sticky.rbOvf := rfl
@[simp] theorem noteOvf_tvu (b : Bool) (s : State) : (s.noteOvf b).tvu = s.tvu := rfl
@[simp] theorem noteOvf_cfg (b : Bool) (s : State) : (s.noteOvf b).cfg = s.cfg := rfl
@[simp] theorem noteOvf_ring (b : Bool) (s : State) : (s.noteOvf b).ring = s.ring := rfl
@[simp] theorem noteOvf_capt (b : Bool) (s : State) : (s.noteOvf b).capt = s.capt := rfl
@[simp] theorem noteOvf_cal (b : Bool) (s : State) : (s.noteOvf b).cal = s.cal := rfl
@[simp] theorem noteOvf_life (b : Bool) (s : State) : (s.noteOvf b).life = s.life := rfl
@[simp] theorem noteOvf_card (b : Bool) (s : State) : (s.noteOvf b).card = s.card := rfl
@[simp] theorem noteOvf_rangeFault (b : Bool) (s : State) : (s.noteOvf b).rangeFault = s.rangeFault := rfl
@[simp] theorem noteOvf_hostRdata (b : Bool) (s : State) : (s.noteOvf b).hostRdata = s.hostRdata := rfl
@[simp] theorem noteOvf_port (b : Bool) (s : State) : (s.noteOvf b).port = s.port := rfl
@[simp] theorem noteOvf_drawCtr (b : Bool) (s : State) : (s.noteOvf b).drawCtr = s.drawCtr := rfl
@[simp] theorem noteOvf_sched (b : Bool) (s : State) : (s.noteOvf b).sched = s.sched := rfl

/-! `noteNormRange` -/

@[simp] theorem noteNormRange_cmd (b : Bool) (s : State) : (s.noteNormRange b).cmd = s.cmd := rfl
@[simp] theorem noteNormRange_errCode (b : Bool) (s : State) : (s.noteNormRange b).errCode = s.errCode := rfl
@[simp] theorem noteNormRange_errOp (b : Bool) (s : State) : (s.noteNormRange b).errOp = s.errOp := rfl
@[simp] theorem noteNormRange_sticky_ovf (b : Bool) (s : State) : (s.noteNormRange b).sticky.ovf = s.sticky.ovf := rfl
@[simp] theorem noteNormRange_sticky_chRange (b : Bool) (s : State) : (s.noteNormRange b).sticky.chRange = s.sticky.chRange := rfl
@[simp] theorem noteNormRange_sticky_busErr (b : Bool) (s : State) : (s.noteNormRange b).sticky.busErr = s.sticky.busErr := rfl
@[simp] theorem noteNormRange_sticky_rbOvf (b : Bool) (s : State) : (s.noteNormRange b).sticky.rbOvf = s.sticky.rbOvf := rfl
@[simp] theorem noteNormRange_tvu (b : Bool) (s : State) : (s.noteNormRange b).tvu = s.tvu := rfl
@[simp] theorem noteNormRange_cfg (b : Bool) (s : State) : (s.noteNormRange b).cfg = s.cfg := rfl
@[simp] theorem noteNormRange_ring (b : Bool) (s : State) : (s.noteNormRange b).ring = s.ring := rfl
@[simp] theorem noteNormRange_capt (b : Bool) (s : State) : (s.noteNormRange b).capt = s.capt := rfl
@[simp] theorem noteNormRange_cal (b : Bool) (s : State) : (s.noteNormRange b).cal = s.cal := rfl
@[simp] theorem noteNormRange_life (b : Bool) (s : State) : (s.noteNormRange b).life = s.life := rfl
@[simp] theorem noteNormRange_card (b : Bool) (s : State) : (s.noteNormRange b).card = s.card := rfl
@[simp] theorem noteNormRange_hostRdata (b : Bool) (s : State) : (s.noteNormRange b).hostRdata = s.hostRdata := rfl
@[simp] theorem noteNormRange_port (b : Bool) (s : State) : (s.noteNormRange b).port = s.port := rfl
@[simp] theorem noteNormRange_drawCtr (b : Bool) (s : State) : (s.noteNormRange b).drawCtr = s.drawCtr := rfl
@[simp] theorem noteNormRange_sched (b : Bool) (s : State) : (s.noteNormRange b).sched = s.sched := rfl

/-! `noteChRange` -/

@[simp] theorem noteChRange_cmd (b : Bool) (s : State) : (s.noteChRange b).cmd = s.cmd := rfl
@[simp] theorem noteChRange_errCode (b : Bool) (s : State) : (s.noteChRange b).errCode = s.errCode := rfl
@[simp] theorem noteChRange_errOp (b : Bool) (s : State) : (s.noteChRange b).errOp = s.errOp := rfl
@[simp] theorem noteChRange_sticky_ovf (b : Bool) (s : State) : (s.noteChRange b).sticky.ovf = s.sticky.ovf := rfl
@[simp] theorem noteChRange_sticky_normRange (b : Bool) (s : State) : (s.noteChRange b).sticky.normRange = s.sticky.normRange := rfl
@[simp] theorem noteChRange_sticky_busErr (b : Bool) (s : State) : (s.noteChRange b).sticky.busErr = s.sticky.busErr := rfl
@[simp] theorem noteChRange_sticky_rbOvf (b : Bool) (s : State) : (s.noteChRange b).sticky.rbOvf = s.sticky.rbOvf := rfl
@[simp] theorem noteChRange_tvu (b : Bool) (s : State) : (s.noteChRange b).tvu = s.tvu := rfl
@[simp] theorem noteChRange_cfg (b : Bool) (s : State) : (s.noteChRange b).cfg = s.cfg := rfl
@[simp] theorem noteChRange_ring (b : Bool) (s : State) : (s.noteChRange b).ring = s.ring := rfl
@[simp] theorem noteChRange_capt (b : Bool) (s : State) : (s.noteChRange b).capt = s.capt := rfl
@[simp] theorem noteChRange_cal (b : Bool) (s : State) : (s.noteChRange b).cal = s.cal := rfl
@[simp] theorem noteChRange_life (b : Bool) (s : State) : (s.noteChRange b).life = s.life := rfl
@[simp] theorem noteChRange_card (b : Bool) (s : State) : (s.noteChRange b).card = s.card := rfl
@[simp] theorem noteChRange_rangeFault (b : Bool) (s : State) : (s.noteChRange b).rangeFault = s.rangeFault := rfl
@[simp] theorem noteChRange_hostRdata (b : Bool) (s : State) : (s.noteChRange b).hostRdata = s.hostRdata := rfl
@[simp] theorem noteChRange_port (b : Bool) (s : State) : (s.noteChRange b).port = s.port := rfl
@[simp] theorem noteChRange_drawCtr (b : Bool) (s : State) : (s.noteChRange b).drawCtr = s.drawCtr := rfl
@[simp] theorem noteChRange_sched (b : Bool) (s : State) : (s.noteChRange b).sched = s.sched := rfl

/-! `noteBusErr` -/

@[simp] theorem noteBusErr_cmd (s : State) : (s.noteBusErr).cmd = s.cmd := rfl
@[simp] theorem noteBusErr_errCode (s : State) : (s.noteBusErr).errCode = s.errCode := rfl
@[simp] theorem noteBusErr_errOp (s : State) : (s.noteBusErr).errOp = s.errOp := rfl
@[simp] theorem noteBusErr_sticky_ovf (s : State) : (s.noteBusErr).sticky.ovf = s.sticky.ovf := rfl
@[simp] theorem noteBusErr_sticky_normRange (s : State) : (s.noteBusErr).sticky.normRange = s.sticky.normRange := rfl
@[simp] theorem noteBusErr_sticky_chRange (s : State) : (s.noteBusErr).sticky.chRange = s.sticky.chRange := rfl
@[simp] theorem noteBusErr_sticky_rbOvf (s : State) : (s.noteBusErr).sticky.rbOvf = s.sticky.rbOvf := rfl
@[simp] theorem noteBusErr_tvu (s : State) : (s.noteBusErr).tvu = s.tvu := rfl
@[simp] theorem noteBusErr_cfg (s : State) : (s.noteBusErr).cfg = s.cfg := rfl
@[simp] theorem noteBusErr_ring (s : State) : (s.noteBusErr).ring = s.ring := rfl
@[simp] theorem noteBusErr_capt (s : State) : (s.noteBusErr).capt = s.capt := rfl
@[simp] theorem noteBusErr_cal (s : State) : (s.noteBusErr).cal = s.cal := rfl
@[simp] theorem noteBusErr_life (s : State) : (s.noteBusErr).life = s.life := rfl
@[simp] theorem noteBusErr_card (s : State) : (s.noteBusErr).card = s.card := rfl
@[simp] theorem noteBusErr_rangeFault (s : State) : (s.noteBusErr).rangeFault = s.rangeFault := rfl
@[simp] theorem noteBusErr_hostRdata (s : State) : (s.noteBusErr).hostRdata = s.hostRdata := rfl
@[simp] theorem noteBusErr_port (s : State) : (s.noteBusErr).port = s.port := rfl
@[simp] theorem noteBusErr_drawCtr (s : State) : (s.noteBusErr).drawCtr = s.drawCtr := rfl
@[simp] theorem noteBusErr_sched (s : State) : (s.noteBusErr).sched = s.sched := rfl

/-! `noteRbOvf` -/

@[simp] theorem noteRbOvf_cmd (s : State) : (s.noteRbOvf).cmd = s.cmd := rfl
@[simp] theorem noteRbOvf_errCode (s : State) : (s.noteRbOvf).errCode = s.errCode := rfl
@[simp] theorem noteRbOvf_errOp (s : State) : (s.noteRbOvf).errOp = s.errOp := rfl
@[simp] theorem noteRbOvf_sticky_ovf (s : State) : (s.noteRbOvf).sticky.ovf = s.sticky.ovf := rfl
@[simp] theorem noteRbOvf_sticky_normRange (s : State) : (s.noteRbOvf).sticky.normRange = s.sticky.normRange := rfl
@[simp] theorem noteRbOvf_sticky_chRange (s : State) : (s.noteRbOvf).sticky.chRange = s.sticky.chRange := rfl
@[simp] theorem noteRbOvf_sticky_busErr (s : State) : (s.noteRbOvf).sticky.busErr = s.sticky.busErr := rfl
@[simp] theorem noteRbOvf_tvu (s : State) : (s.noteRbOvf).tvu = s.tvu := rfl
@[simp] theorem noteRbOvf_cfg (s : State) : (s.noteRbOvf).cfg = s.cfg := rfl
@[simp] theorem noteRbOvf_ring (s : State) : (s.noteRbOvf).ring = s.ring := rfl
@[simp] theorem noteRbOvf_capt (s : State) : (s.noteRbOvf).capt = s.capt := rfl
@[simp] theorem noteRbOvf_cal (s : State) : (s.noteRbOvf).cal = s.cal := rfl
@[simp] theorem noteRbOvf_life (s : State) : (s.noteRbOvf).life = s.life := rfl
@[simp] theorem noteRbOvf_card (s : State) : (s.noteRbOvf).card = s.card := rfl
@[simp] theorem noteRbOvf_rangeFault (s : State) : (s.noteRbOvf).rangeFault = s.rangeFault := rfl
@[simp] theorem noteRbOvf_hostRdata (s : State) : (s.noteRbOvf).hostRdata = s.hostRdata := rfl
@[simp] theorem noteRbOvf_port (s : State) : (s.noteRbOvf).port = s.port := rfl
@[simp] theorem noteRbOvf_drawCtr (s : State) : (s.noteRbOvf).drawCtr = s.drawCtr := rfl
@[simp] theorem noteRbOvf_sched (s : State) : (s.noteRbOvf).sched = s.sched := rfl

/-! `setErr` -/

@[simp] theorem setErr_cmd (c : ErrCode) (op : BitVec 8) (s : State) : (s.setErr c op).cmd = s.cmd := rfl
@[simp] theorem setErr_sticky (c : ErrCode) (op : BitVec 8) (s : State) : (s.setErr c op).sticky = s.sticky := rfl
@[simp] theorem setErr_tvu (c : ErrCode) (op : BitVec 8) (s : State) : (s.setErr c op).tvu = s.tvu := rfl
@[simp] theorem setErr_cfg (c : ErrCode) (op : BitVec 8) (s : State) : (s.setErr c op).cfg = s.cfg := rfl
@[simp] theorem setErr_ring (c : ErrCode) (op : BitVec 8) (s : State) : (s.setErr c op).ring = s.ring := rfl
@[simp] theorem setErr_capt (c : ErrCode) (op : BitVec 8) (s : State) : (s.setErr c op).capt = s.capt := rfl
@[simp] theorem setErr_cal (c : ErrCode) (op : BitVec 8) (s : State) : (s.setErr c op).cal = s.cal := rfl
@[simp] theorem setErr_life (c : ErrCode) (op : BitVec 8) (s : State) : (s.setErr c op).life = s.life := rfl
@[simp] theorem setErr_card (c : ErrCode) (op : BitVec 8) (s : State) : (s.setErr c op).card = s.card := rfl
@[simp] theorem setErr_rangeFault (c : ErrCode) (op : BitVec 8) (s : State) : (s.setErr c op).rangeFault = s.rangeFault := rfl
@[simp] theorem setErr_hostRdata (c : ErrCode) (op : BitVec 8) (s : State) : (s.setErr c op).hostRdata = s.hostRdata := rfl
@[simp] theorem setErr_port (c : ErrCode) (op : BitVec 8) (s : State) : (s.setErr c op).port = s.port := rfl
@[simp] theorem setErr_drawCtr (c : ErrCode) (op : BitVec 8) (s : State) : (s.setErr c op).drawCtr = s.drawCtr := rfl
@[simp] theorem setErr_sched (c : ErrCode) (op : BitVec 8) (s : State) : (s.setErr c op).sched = s.sched := rfl

/-! `ringNew` -/

@[simp] theorem ringNew_cmd (k : Word) (s : State) : (s.ringNew k).cmd = s.cmd := rfl
@[simp] theorem ringNew_errCode (k : Word) (s : State) : (s.ringNew k).errCode = s.errCode := rfl
@[simp] theorem ringNew_errOp (k : Word) (s : State) : (s.ringNew k).errOp = s.errOp := rfl
@[simp] theorem ringNew_sticky (k : Word) (s : State) : (s.ringNew k).sticky = s.sticky := rfl
@[simp] theorem ringNew_tvu (k : Word) (s : State) : (s.ringNew k).tvu = s.tvu := rfl
@[simp] theorem ringNew_cfg (k : Word) (s : State) : (s.ringNew k).cfg = s.cfg := rfl
@[simp] theorem ringNew_ring_ret (k : Word) (s : State) : (s.ringNew k).ring.ret = s.ring.ret := rfl
@[simp] theorem ringNew_capt (k : Word) (s : State) : (s.ringNew k).capt = s.capt := rfl
@[simp] theorem ringNew_cal (k : Word) (s : State) : (s.ringNew k).cal = s.cal := rfl
@[simp] theorem ringNew_life (k : Word) (s : State) : (s.ringNew k).life = s.life := rfl
@[simp] theorem ringNew_card (k : Word) (s : State) : (s.ringNew k).card = s.card := rfl
@[simp] theorem ringNew_rangeFault (k : Word) (s : State) : (s.ringNew k).rangeFault = s.rangeFault := rfl
@[simp] theorem ringNew_hostRdata (k : Word) (s : State) : (s.ringNew k).hostRdata = s.hostRdata := rfl
@[simp] theorem ringNew_port (k : Word) (s : State) : (s.ringNew k).port = s.port := rfl
@[simp] theorem ringNew_drawCtr (k : Word) (s : State) : (s.ringNew k).drawCtr = s.drawCtr := rfl
@[simp] theorem ringNew_sched (k : Word) (s : State) : (s.ringNew k).sched = s.sched := rfl

/-! `logTxn` -/

@[simp] theorem logTxn_cmd (t : Txn) (s : State) : (s.logTxn t).cmd = s.cmd := rfl
@[simp] theorem logTxn_errCode (t : Txn) (s : State) : (s.logTxn t).errCode = s.errCode := rfl
@[simp] theorem logTxn_errOp (t : Txn) (s : State) : (s.logTxn t).errOp = s.errOp := rfl
@[simp] theorem logTxn_sticky (t : Txn) (s : State) : (s.logTxn t).sticky = s.sticky := rfl
@[simp] theorem logTxn_tvu (t : Txn) (s : State) : (s.logTxn t).tvu = s.tvu := rfl
@[simp] theorem logTxn_cfg (t : Txn) (s : State) : (s.logTxn t).cfg = s.cfg := rfl
@[simp] theorem logTxn_ring (t : Txn) (s : State) : (s.logTxn t).ring = s.ring := rfl
@[simp] theorem logTxn_capt (t : Txn) (s : State) : (s.logTxn t).capt = s.capt := rfl
@[simp] theorem logTxn_cal (t : Txn) (s : State) : (s.logTxn t).cal = s.cal := rfl
@[simp] theorem logTxn_life (t : Txn) (s : State) : (s.logTxn t).life = s.life := rfl
@[simp] theorem logTxn_card (t : Txn) (s : State) : (s.logTxn t).card = s.card := rfl
@[simp] theorem logTxn_rangeFault (t : Txn) (s : State) : (s.logTxn t).rangeFault = s.rangeFault := rfl
@[simp] theorem logTxn_hostRdata (t : Txn) (s : State) : (s.logTxn t).hostRdata = s.hostRdata := rfl
@[simp] theorem logTxn_drawCtr (t : Txn) (s : State) : (s.logTxn t).drawCtr = s.drawCtr := rfl
@[simp] theorem logTxn_sched (t : Txn) (s : State) : (s.logTxn t).sched = s.sched := rfl

/-! `dwrite` -/

@[simp] theorem dwrite_cmd (r : WriteReg) (v : Word) (s : State) : (s.dwrite r v).cmd = s.cmd := rfl
@[simp] theorem dwrite_errCode (r : WriteReg) (v : Word) (s : State) : (s.dwrite r v).errCode = s.errCode := rfl
@[simp] theorem dwrite_errOp (r : WriteReg) (v : Word) (s : State) : (s.dwrite r v).errOp = s.errOp := rfl
@[simp] theorem dwrite_sticky (r : WriteReg) (v : Word) (s : State) : (s.dwrite r v).sticky = s.sticky := rfl
@[simp] theorem dwrite_tvu (r : WriteReg) (v : Word) (s : State) : (s.dwrite r v).tvu = s.tvu := rfl
@[simp] theorem dwrite_cfg (r : WriteReg) (v : Word) (s : State) : (s.dwrite r v).cfg = s.cfg := rfl
@[simp] theorem dwrite_ring (r : WriteReg) (v : Word) (s : State) : (s.dwrite r v).ring = s.ring := rfl
@[simp] theorem dwrite_capt (r : WriteReg) (v : Word) (s : State) : (s.dwrite r v).capt = s.capt := rfl
@[simp] theorem dwrite_cal (r : WriteReg) (v : Word) (s : State) : (s.dwrite r v).cal = s.cal := rfl
@[simp] theorem dwrite_life (r : WriteReg) (v : Word) (s : State) : (s.dwrite r v).life = s.life := rfl
@[simp] theorem dwrite_rangeFault (r : WriteReg) (v : Word) (s : State) : (s.dwrite r v).rangeFault = s.rangeFault := rfl
@[simp] theorem dwrite_hostRdata (r : WriteReg) (v : Word) (s : State) : (s.dwrite r v).hostRdata = s.hostRdata := rfl
@[simp] theorem dwrite_drawCtr (r : WriteReg) (v : Word) (s : State) : (s.dwrite r v).drawCtr = s.drawCtr := rfl
@[simp] theorem dwrite_sched (r : WriteReg) (v : Word) (s : State) : (s.dwrite r v).sched = s.sched := rfl

/-! `popCard` -/

@[simp] theorem popCard_cmd (s : State) : (s.popCard).cmd = s.cmd := rfl
@[simp] theorem popCard_errCode (s : State) : (s.popCard).errCode = s.errCode := rfl
@[simp] theorem popCard_errOp (s : State) : (s.popCard).errOp = s.errOp := rfl
@[simp] theorem popCard_sticky (s : State) : (s.popCard).sticky = s.sticky := rfl
@[simp] theorem popCard_tvu (s : State) : (s.popCard).tvu = s.tvu := rfl
@[simp] theorem popCard_cfg (s : State) : (s.popCard).cfg = s.cfg := rfl
@[simp] theorem popCard_ring (s : State) : (s.popCard).ring = s.ring := rfl
@[simp] theorem popCard_capt (s : State) : (s.popCard).capt = s.capt := rfl
@[simp] theorem popCard_cal (s : State) : (s.popCard).cal = s.cal := rfl
@[simp] theorem popCard_life (s : State) : (s.popCard).life = s.life := rfl
@[simp] theorem popCard_card_fifoCsrRest (s : State) : (s.popCard).card.fifoCsrRest = s.card.fifoCsrRest := rfl
@[simp] theorem popCard_card_irqEn (s : State) : (s.popCard).card.irqEn = s.card.irqEn := rfl
@[simp] theorem popCard_card_irqPend (s : State) : (s.popCard).card.irqPend = s.card.irqPend := rfl
@[simp] theorem popCard_card_dlyTap (s : State) : (s.popCard).card.dlyTap = s.card.dlyTap := rfl
@[simp] theorem popCard_card_chCtrl (s : State) : (s.popCard).card.chCtrl = s.card.chCtrl := rfl
@[simp] theorem popCard_card_calArm (s : State) : (s.popCard).card.calArm = s.card.calArm := rfl
@[simp] theorem popCard_card_tdcDraws (s : State) : (s.popCard).card.tdcDraws = s.card.tdcDraws := rfl
@[simp] theorem popCard_card_selftestOk (s : State) : (s.popCard).card.selftestOk = s.card.selftestOk := rfl
@[simp] theorem popCard_card_temp (s : State) : (s.popCard).card.temp = s.card.temp := rfl
@[simp] theorem popCard_rangeFault (s : State) : (s.popCard).rangeFault = s.rangeFault := rfl
@[simp] theorem popCard_hostRdata (s : State) : (s.popCard).hostRdata = s.hostRdata := rfl
@[simp] theorem popCard_port (s : State) : (s.popCard).port = s.port := rfl
@[simp] theorem popCard_drawCtr (s : State) : (s.popCard).drawCtr = s.drawCtr := rfl
@[simp] theorem popCard_sched (s : State) : (s.popCard).sched = s.sched := rfl

/-! `emit` -/

@[simp] theorem emit_cmd (r : OutRec) (s : State) : (s.emit r).cmd = s.cmd := rfl
@[simp] theorem emit_errCode (r : OutRec) (s : State) : (s.emit r).errCode = s.errCode := rfl
@[simp] theorem emit_errOp (r : OutRec) (s : State) : (s.emit r).errOp = s.errOp := rfl
@[simp] theorem emit_sticky (r : OutRec) (s : State) : (s.emit r).sticky = s.sticky := rfl
@[simp] theorem emit_tvu (r : OutRec) (s : State) : (s.emit r).tvu = s.tvu := rfl
@[simp] theorem emit_cfg (r : OutRec) (s : State) : (s.emit r).cfg = s.cfg := rfl
@[simp] theorem emit_ring (r : OutRec) (s : State) : (s.emit r).ring = s.ring := rfl
@[simp] theorem emit_capt_mode (r : OutRec) (s : State) : (s.emit r).capt.mode = s.capt.mode := rfl
@[simp] theorem emit_capt_dr (r : OutRec) (s : State) : (s.emit r).capt.dr = s.capt.dr := rfl
@[simp] theorem emit_capt_drCtx (r : OutRec) (s : State) : (s.emit r).capt.drCtx = s.capt.drCtx := rfl
@[simp] theorem emit_capt_drPushed (r : OutRec) (s : State) : (s.emit r).capt.drPushed = s.capt.drPushed := rfl
@[simp] theorem emit_capt_ready (r : OutRec) (s : State) : (s.emit r).capt.ready = s.capt.ready := rfl
@[simp] theorem emit_capt_dropped (r : OutRec) (s : State) : (s.emit r).capt.dropped = s.capt.dropped := rfl
@[simp] theorem emit_capt_lost (r : OutRec) (s : State) : (s.emit r).capt.lost = s.capt.lost := rfl
@[simp] theorem emit_capt_lastValid (r : OutRec) (s : State) : (s.emit r).capt.lastValid = s.capt.lastValid := rfl
@[simp] theorem emit_capt_lastSeq (r : OutRec) (s : State) : (s.emit r).capt.lastSeq = s.capt.lastSeq := rfl
@[simp] theorem emit_capt_delivered (r : OutRec) (s : State) : (s.emit r).capt.delivered = s.capt.delivered := rfl
@[simp] theorem emit_cal (r : OutRec) (s : State) : (s.emit r).cal = s.cal := rfl
@[simp] theorem emit_life (r : OutRec) (s : State) : (s.emit r).life = s.life := rfl
@[simp] theorem emit_card (r : OutRec) (s : State) : (s.emit r).card = s.card := rfl
@[simp] theorem emit_rangeFault (r : OutRec) (s : State) : (s.emit r).rangeFault = s.rangeFault := rfl
@[simp] theorem emit_hostRdata (r : OutRec) (s : State) : (s.emit r).hostRdata = s.hostRdata := rfl
@[simp] theorem emit_port (r : OutRec) (s : State) : (s.emit r).port = s.port := rfl
@[simp] theorem emit_drawCtr (r : OutRec) (s : State) : (s.emit r).drawCtr = s.drawCtr := rfl
@[simp] theorem emit_sched (r : OutRec) (s : State) : (s.emit r).sched = s.sched := rfl

/-! `startDrain` -/

@[simp] theorem startDrain_cmd (m : CapMode) (s : State) : (s.startDrain m).cmd = s.cmd := rfl
@[simp] theorem startDrain_errCode (m : CapMode) (s : State) : (s.startDrain m).errCode = s.errCode := rfl
@[simp] theorem startDrain_errOp (m : CapMode) (s : State) : (s.startDrain m).errOp = s.errOp := rfl
@[simp] theorem startDrain_sticky (m : CapMode) (s : State) : (s.startDrain m).sticky = s.sticky := rfl
@[simp] theorem startDrain_tvu (m : CapMode) (s : State) : (s.startDrain m).tvu = s.tvu := rfl
@[simp] theorem startDrain_cfg (m : CapMode) (s : State) : (s.startDrain m).cfg = s.cfg := rfl
@[simp] theorem startDrain_ring (m : CapMode) (s : State) : (s.startDrain m).ring = s.ring := rfl
@[simp] theorem startDrain_capt_mode (m : CapMode) (s : State) : (s.startDrain m).capt.mode = s.capt.mode := rfl
@[simp] theorem startDrain_capt_ready (m : CapMode) (s : State) : (s.startDrain m).capt.ready = s.capt.ready := rfl
@[simp] theorem startDrain_capt_dropped (m : CapMode) (s : State) : (s.startDrain m).capt.dropped = s.capt.dropped := rfl
@[simp] theorem startDrain_capt_lost (m : CapMode) (s : State) : (s.startDrain m).capt.lost = s.capt.lost := rfl
@[simp] theorem startDrain_capt_lastValid (m : CapMode) (s : State) : (s.startDrain m).capt.lastValid = s.capt.lastValid := rfl
@[simp] theorem startDrain_capt_lastSeq (m : CapMode) (s : State) : (s.startDrain m).capt.lastSeq = s.capt.lastSeq := rfl
@[simp] theorem startDrain_capt_delivered (m : CapMode) (s : State) : (s.startDrain m).capt.delivered = s.capt.delivered := rfl
@[simp] theorem startDrain_capt_out (m : CapMode) (s : State) : (s.startDrain m).capt.out = s.capt.out := rfl
@[simp] theorem startDrain_cal (m : CapMode) (s : State) : (s.startDrain m).cal = s.cal := rfl
@[simp] theorem startDrain_life (m : CapMode) (s : State) : (s.startDrain m).life = s.life := rfl
@[simp] theorem startDrain_card (m : CapMode) (s : State) : (s.startDrain m).card = s.card := rfl
@[simp] theorem startDrain_rangeFault (m : CapMode) (s : State) : (s.startDrain m).rangeFault = s.rangeFault := rfl
@[simp] theorem startDrain_hostRdata (m : CapMode) (s : State) : (s.startDrain m).hostRdata = s.hostRdata := rfl
@[simp] theorem startDrain_port (m : CapMode) (s : State) : (s.startDrain m).port = s.port := rfl
@[simp] theorem startDrain_drawCtr (m : CapMode) (s : State) : (s.startDrain m).drawCtr = s.drawCtr := rfl
@[simp] theorem startDrain_sched (m : CapMode) (s : State) : (s.startDrain m).sched = s.sched := rfl

/-! `endDrain` -/

@[simp] theorem endDrain_cmd (s : State) : (s.endDrain).cmd = s.cmd := rfl
@[simp] theorem endDrain_errCode (s : State) : (s.endDrain).errCode = s.errCode := rfl
@[simp] theorem endDrain_errOp (s : State) : (s.endDrain).errOp = s.errOp := rfl
@[simp] theorem endDrain_sticky (s : State) : (s.endDrain).sticky = s.sticky := rfl
@[simp] theorem endDrain_tvu (s : State) : (s.endDrain).tvu = s.tvu := rfl
@[simp] theorem endDrain_cfg (s : State) : (s.endDrain).cfg = s.cfg := rfl
@[simp] theorem endDrain_ring (s : State) : (s.endDrain).ring = s.ring := rfl
@[simp] theorem endDrain_capt_mode (s : State) : (s.endDrain).capt.mode = s.capt.mode := rfl
@[simp] theorem endDrain_capt_drCtx (s : State) : (s.endDrain).capt.drCtx = s.capt.drCtx := rfl
@[simp] theorem endDrain_capt_drPushed (s : State) : (s.endDrain).capt.drPushed = s.capt.drPushed := rfl
@[simp] theorem endDrain_capt_dropped (s : State) : (s.endDrain).capt.dropped = s.capt.dropped := rfl
@[simp] theorem endDrain_capt_lost (s : State) : (s.endDrain).capt.lost = s.capt.lost := rfl
@[simp] theorem endDrain_capt_lastValid (s : State) : (s.endDrain).capt.lastValid = s.capt.lastValid := rfl
@[simp] theorem endDrain_capt_lastSeq (s : State) : (s.endDrain).capt.lastSeq = s.capt.lastSeq := rfl
@[simp] theorem endDrain_capt_delivered (s : State) : (s.endDrain).capt.delivered = s.capt.delivered := rfl
@[simp] theorem endDrain_capt_out (s : State) : (s.endDrain).capt.out = s.capt.out := rfl
@[simp] theorem endDrain_cal (s : State) : (s.endDrain).cal = s.cal := rfl
@[simp] theorem endDrain_life (s : State) : (s.endDrain).life = s.life := rfl
@[simp] theorem endDrain_card (s : State) : (s.endDrain).card = s.card := rfl
@[simp] theorem endDrain_rangeFault (s : State) : (s.endDrain).rangeFault = s.rangeFault := rfl
@[simp] theorem endDrain_hostRdata (s : State) : (s.endDrain).hostRdata = s.hostRdata := rfl
@[simp] theorem endDrain_port (s : State) : (s.endDrain).port = s.port := rfl
@[simp] theorem endDrain_drawCtr (s : State) : (s.endDrain).drawCtr = s.drawCtr := rfl
@[simp] theorem endDrain_sched (s : State) : (s.endDrain).sched = s.sched := rfl

/-! `countDelivery` -/

@[simp] theorem countDelivery_cmd (x : RawSample) (g : BitVec 16) (s : State) : (s.countDelivery x g).cmd = s.cmd := rfl
@[simp] theorem countDelivery_errCode (x : RawSample) (g : BitVec 16) (s : State) : (s.countDelivery x g).errCode = s.errCode := rfl
@[simp] theorem countDelivery_errOp (x : RawSample) (g : BitVec 16) (s : State) : (s.countDelivery x g).errOp = s.errOp := rfl
@[simp] theorem countDelivery_sticky (x : RawSample) (g : BitVec 16) (s : State) : (s.countDelivery x g).sticky = s.sticky := rfl
@[simp] theorem countDelivery_tvu (x : RawSample) (g : BitVec 16) (s : State) : (s.countDelivery x g).tvu = s.tvu := rfl
@[simp] theorem countDelivery_cfg (x : RawSample) (g : BitVec 16) (s : State) : (s.countDelivery x g).cfg = s.cfg := rfl
@[simp] theorem countDelivery_ring (x : RawSample) (g : BitVec 16) (s : State) : (s.countDelivery x g).ring = s.ring := rfl
@[simp] theorem countDelivery_capt_mode (x : RawSample) (g : BitVec 16) (s : State) : (s.countDelivery x g).capt.mode = s.capt.mode := rfl
@[simp] theorem countDelivery_capt_dr (x : RawSample) (g : BitVec 16) (s : State) : (s.countDelivery x g).capt.dr = s.capt.dr := rfl
@[simp] theorem countDelivery_capt_drCtx (x : RawSample) (g : BitVec 16) (s : State) : (s.countDelivery x g).capt.drCtx = s.capt.drCtx := rfl
@[simp] theorem countDelivery_capt_drPushed (x : RawSample) (g : BitVec 16) (s : State) : (s.countDelivery x g).capt.drPushed = s.capt.drPushed := rfl
@[simp] theorem countDelivery_capt_dropped (x : RawSample) (g : BitVec 16) (s : State) : (s.countDelivery x g).capt.dropped = s.capt.dropped := rfl
@[simp] theorem countDelivery_capt_out (x : RawSample) (g : BitVec 16) (s : State) : (s.countDelivery x g).capt.out = s.capt.out := rfl
@[simp] theorem countDelivery_cal (x : RawSample) (g : BitVec 16) (s : State) : (s.countDelivery x g).cal = s.cal := rfl
@[simp] theorem countDelivery_life (x : RawSample) (g : BitVec 16) (s : State) : (s.countDelivery x g).life = s.life := rfl
@[simp] theorem countDelivery_card (x : RawSample) (g : BitVec 16) (s : State) : (s.countDelivery x g).card = s.card := rfl
@[simp] theorem countDelivery_rangeFault (x : RawSample) (g : BitVec 16) (s : State) : (s.countDelivery x g).rangeFault = s.rangeFault := rfl
@[simp] theorem countDelivery_hostRdata (x : RawSample) (g : BitVec 16) (s : State) : (s.countDelivery x g).hostRdata = s.hostRdata := rfl
@[simp] theorem countDelivery_port (x : RawSample) (g : BitVec 16) (s : State) : (s.countDelivery x g).port = s.port := rfl
@[simp] theorem countDelivery_drawCtr (x : RawSample) (g : BitVec 16) (s : State) : (s.countDelivery x g).drawCtr = s.drawCtr := rfl
@[simp] theorem countDelivery_sched (x : RawSample) (g : BitVec 16) (s : State) : (s.countDelivery x g).sched = s.sched := rfl

/-! `putTime` -/

@[simp] theorem putTime_cmd (x : TimeResult) (s : State) : (s.putTime x).cmd = s.cmd := rfl
@[simp] theorem putTime_errCode (x : TimeResult) (s : State) : (s.putTime x).errCode = s.errCode := rfl
@[simp] theorem putTime_errOp (x : TimeResult) (s : State) : (s.putTime x).errOp = s.errOp := rfl
@[simp] theorem putTime_sticky_chRange (x : TimeResult) (s : State) : (s.putTime x).sticky.chRange = s.sticky.chRange := rfl
@[simp] theorem putTime_sticky_busErr (x : TimeResult) (s : State) : (s.putTime x).sticky.busErr = s.sticky.busErr := rfl
@[simp] theorem putTime_sticky_rbOvf (x : TimeResult) (s : State) : (s.putTime x).sticky.rbOvf = s.sticky.rbOvf := rfl
@[simp] theorem putTime_cfg (x : TimeResult) (s : State) : (s.putTime x).cfg = s.cfg := rfl
@[simp] theorem putTime_ring (x : TimeResult) (s : State) : (s.putTime x).ring = s.ring := rfl
@[simp] theorem putTime_capt (x : TimeResult) (s : State) : (s.putTime x).capt = s.capt := rfl
@[simp] theorem putTime_cal (x : TimeResult) (s : State) : (s.putTime x).cal = s.cal := rfl
@[simp] theorem putTime_life (x : TimeResult) (s : State) : (s.putTime x).life = s.life := rfl
@[simp] theorem putTime_card (x : TimeResult) (s : State) : (s.putTime x).card = s.card := rfl
@[simp] theorem putTime_hostRdata (x : TimeResult) (s : State) : (s.putTime x).hostRdata = s.hostRdata := rfl
@[simp] theorem putTime_port (x : TimeResult) (s : State) : (s.putTime x).port = s.port := rfl
@[simp] theorem putTime_drawCtr (x : TimeResult) (s : State) : (s.putTime x).drawCtr = s.drawCtr := rfl
@[simp] theorem putTime_sched (x : TimeResult) (s : State) : (s.putTime x).sched = s.sched := rfl

/-! `deliver` -/

@[simp] theorem deliver_cmd (x : RawSample) (s : State) : (s.deliver x).cmd = s.cmd := rfl
@[simp] theorem deliver_errCode (x : RawSample) (s : State) : (s.deliver x).errCode = s.errCode := rfl
@[simp] theorem deliver_errOp (x : RawSample) (s : State) : (s.deliver x).errOp = s.errOp := rfl
@[simp] theorem deliver_sticky_busErr (x : RawSample) (s : State) : (s.deliver x).sticky.busErr = s.sticky.busErr := rfl
@[simp] theorem deliver_sticky_rbOvf (x : RawSample) (s : State) : (s.deliver x).sticky.rbOvf = s.sticky.rbOvf := rfl
@[simp] theorem deliver_tvu (x : RawSample) (s : State) : (s.deliver x).tvu = s.tvu := rfl
@[simp] theorem deliver_cfg (x : RawSample) (s : State) : (s.deliver x).cfg = s.cfg := rfl
@[simp] theorem deliver_ring (x : RawSample) (s : State) : (s.deliver x).ring = s.ring := rfl
@[simp] theorem deliver_capt_mode (x : RawSample) (s : State) : (s.deliver x).capt.mode = s.capt.mode := rfl
@[simp] theorem deliver_capt_dr (x : RawSample) (s : State) : (s.deliver x).capt.dr = s.capt.dr := rfl
@[simp] theorem deliver_capt_drCtx (x : RawSample) (s : State) : (s.deliver x).capt.drCtx = s.capt.drCtx := rfl
@[simp] theorem deliver_capt_drPushed (x : RawSample) (s : State) : (s.deliver x).capt.drPushed = s.capt.drPushed := rfl
@[simp] theorem deliver_capt_dropped (x : RawSample) (s : State) : (s.deliver x).capt.dropped = s.capt.dropped := rfl
@[simp] theorem deliver_cal (x : RawSample) (s : State) : (s.deliver x).cal = s.cal := rfl
@[simp] theorem deliver_life (x : RawSample) (s : State) : (s.deliver x).life = s.life := rfl
@[simp] theorem deliver_card (x : RawSample) (s : State) : (s.deliver x).card = s.card := rfl
@[simp] theorem deliver_hostRdata (x : RawSample) (s : State) : (s.deliver x).hostRdata = s.hostRdata := rfl
@[simp] theorem deliver_port (x : RawSample) (s : State) : (s.deliver x).port = s.port := rfl
@[simp] theorem deliver_drawCtr (x : RawSample) (s : State) : (s.deliver x).drawCtr = s.drawCtr := rfl
@[simp] theorem deliver_sched (x : RawSample) (s : State) : (s.deliver x).sched = s.sched := rfl

/-! `accumulate` -/

@[simp] theorem accumulate_cmd (v : BitVec 64) (s : State) : (s.accumulate v).cmd = s.cmd := rfl
@[simp] theorem accumulate_errCode (v : BitVec 64) (s : State) : (s.accumulate v).errCode = s.errCode := rfl
@[simp] theorem accumulate_errOp (v : BitVec 64) (s : State) : (s.accumulate v).errOp = s.errOp := rfl
@[simp] theorem accumulate_sticky_normRange (v : BitVec 64) (s : State) : (s.accumulate v).sticky.normRange = s.sticky.normRange := rfl
@[simp] theorem accumulate_sticky_chRange (v : BitVec 64) (s : State) : (s.accumulate v).sticky.chRange = s.sticky.chRange := rfl
@[simp] theorem accumulate_sticky_busErr (v : BitVec 64) (s : State) : (s.accumulate v).sticky.busErr = s.sticky.busErr := rfl
@[simp] theorem accumulate_sticky_rbOvf (v : BitVec 64) (s : State) : (s.accumulate v).sticky.rbOvf = s.sticky.rbOvf := rfl
@[simp] theorem accumulate_tvu (v : BitVec 64) (s : State) : (s.accumulate v).tvu = s.tvu := rfl
@[simp] theorem accumulate_cfg (v : BitVec 64) (s : State) : (s.accumulate v).cfg = s.cfg := rfl
@[simp] theorem accumulate_ring (v : BitVec 64) (s : State) : (s.accumulate v).ring = s.ring := rfl
@[simp] theorem accumulate_capt (v : BitVec 64) (s : State) : (s.accumulate v).capt = s.capt := rfl
@[simp] theorem accumulate_cal_fsm (v : BitVec 64) (s : State) : (s.accumulate v).cal.fsm = s.cal.fsm := rfl
@[simp] theorem accumulate_cal_stateCh (v : BitVec 64) (s : State) : (s.accumulate v).cal.stateCh = s.cal.stateCh := rfl
@[simp] theorem accumulate_cal_err (v : BitVec 64) (s : State) : (s.accumulate v).cal.err = s.cal.err := rfl
@[simp] theorem accumulate_cal_low (v : BitVec 64) (s : State) : (s.accumulate v).cal.low = s.cal.low := rfl
@[simp] theorem accumulate_cal_high (v : BitVec 64) (s : State) : (s.accumulate v).cal.high = s.cal.high := rfl
@[simp] theorem accumulate_cal_iter (v : BitVec 64) (s : State) : (s.accumulate v).cal.iter = s.cal.iter := rfl
@[simp] theorem accumulate_cal_bias (v : BitVec 64) (s : State) : (s.accumulate v).cal.bias = s.cal.bias := rfl
@[simp] theorem accumulate_cal_curTap (v : BitVec 64) (s : State) : (s.accumulate v).cal.curTap = s.cal.curTap := rfl
@[simp] theorem accumulate_cal_res (v : BitVec 64) (s : State) : (s.accumulate v).cal.res = s.cal.res := rfl
@[simp] theorem accumulate_cal_nL (v : BitVec 64) (s : State) : (s.accumulate v).cal.nL = s.cal.nL := rfl
@[simp] theorem accumulate_cal_numL (v : BitVec 64) (s : State) : (s.accumulate v).cal.numL = s.cal.numL := rfl
@[simp] theorem accumulate_cal_denL (v : BitVec 64) (s : State) : (s.accumulate v).cal.denL = s.cal.denL := rfl
@[simp] theorem accumulate_cal_binL (v : BitVec 64) (s : State) : (s.accumulate v).cal.binL = s.cal.binL := rfl
@[simp] theorem accumulate_cal_waitL (v : BitVec 64) (s : State) : (s.accumulate v).cal.waitL = s.cal.waitL := rfl
@[simp] theorem accumulate_cal_c0L (v : BitVec 64) (s : State) : (s.accumulate v).cal.c0L = s.cal.c0L := rfl
@[simp] theorem accumulate_cal_c1L (v : BitVec 64) (s : State) : (s.accumulate v).cal.c1L = s.cal.c1L := rfl
@[simp] theorem accumulate_cal_c2L (v : BitVec 64) (s : State) : (s.accumulate v).cal.c2L = s.cal.c2L := rfl
@[simp] theorem accumulate_cal_calCh (v : BitVec 64) (s : State) : (s.accumulate v).cal.calCh = s.cal.calCh := rfl
@[simp] theorem accumulate_cal_phase (v : BitVec 64) (s : State) : (s.accumulate v).cal.phase = s.cal.phase := rfl
@[simp] theorem accumulate_cal_lowDelay (v : BitVec 64) (s : State) : (s.accumulate v).cal.lowDelay = s.cal.lowDelay := rfl
@[simp] theorem accumulate_life (v : BitVec 64) (s : State) : (s.accumulate v).life = s.life := rfl
@[simp] theorem accumulate_card (v : BitVec 64) (s : State) : (s.accumulate v).card = s.card := rfl
@[simp] theorem accumulate_rangeFault (v : BitVec 64) (s : State) : (s.accumulate v).rangeFault = s.rangeFault := rfl
@[simp] theorem accumulate_hostRdata (v : BitVec 64) (s : State) : (s.accumulate v).hostRdata = s.hostRdata := rfl
@[simp] theorem accumulate_port (v : BitVec 64) (s : State) : (s.accumulate v).port = s.port := rfl
@[simp] theorem accumulate_drawCtr (v : BitVec 64) (s : State) : (s.accumulate v).drawCtr = s.drawCtr := rfl
@[simp] theorem accumulate_sched (v : BitVec 64) (s : State) : (s.accumulate v).sched = s.sched := rfl

/-! `abortRun` -/

@[simp] theorem abortRun_cmd (c : ErrCode) (s : State) : (s.abortRun c).cmd = s.cmd := rfl
@[simp] theorem abortRun_errCode (c : ErrCode) (s : State) : (s.abortRun c).errCode = s.errCode := rfl
@[simp] theorem abortRun_errOp (c : ErrCode) (s : State) : (s.abortRun c).errOp = s.errOp := rfl
@[simp] theorem abortRun_sticky (c : ErrCode) (s : State) : (s.abortRun c).sticky = s.sticky := rfl
@[simp] theorem abortRun_tvu (c : ErrCode) (s : State) : (s.abortRun c).tvu = s.tvu := rfl
@[simp] theorem abortRun_cfg (c : ErrCode) (s : State) : (s.abortRun c).cfg = s.cfg := rfl
@[simp] theorem abortRun_ring (c : ErrCode) (s : State) : (s.abortRun c).ring = s.ring := rfl
@[simp] theorem abortRun_capt (c : ErrCode) (s : State) : (s.abortRun c).capt = s.capt := rfl
@[simp] theorem abortRun_cal_stateCh (c : ErrCode) (s : State) : (s.abortRun c).cal.stateCh = s.cal.stateCh := rfl
@[simp] theorem abortRun_cal_low (c : ErrCode) (s : State) : (s.abortRun c).cal.low = s.cal.low := rfl
@[simp] theorem abortRun_cal_high (c : ErrCode) (s : State) : (s.abortRun c).cal.high = s.cal.high := rfl
@[simp] theorem abortRun_cal_iter (c : ErrCode) (s : State) : (s.abortRun c).cal.iter = s.cal.iter := rfl
@[simp] theorem abortRun_cal_bias (c : ErrCode) (s : State) : (s.abortRun c).cal.bias = s.cal.bias := rfl
@[simp] theorem abortRun_cal_runMin (c : ErrCode) (s : State) : (s.abortRun c).cal.runMin = s.cal.runMin := rfl
@[simp] theorem abortRun_cal_runMax (c : ErrCode) (s : State) : (s.abortRun c).cal.runMax = s.cal.runMax := rfl
@[simp] theorem abortRun_cal_shotCount (c : ErrCode) (s : State) : (s.abortRun c).cal.shotCount = s.cal.shotCount := rfl
@[simp] theorem abortRun_cal_curTap (c : ErrCode) (s : State) : (s.abortRun c).cal.curTap = s.cal.curTap := rfl
@[simp] theorem abortRun_cal_res (c : ErrCode) (s : State) : (s.abortRun c).cal.res = s.cal.res := rfl
@[simp] theorem abortRun_cal_nL (c : ErrCode) (s : State) : (s.abortRun c).cal.nL = s.cal.nL := rfl
@[simp] theorem abortRun_cal_numL (c : ErrCode) (s : State) : (s.abortRun c).cal.numL = s.cal.numL := rfl
@[simp] theorem abortRun_cal_denL (c : ErrCode) (s : State) : (s.abortRun c).cal.denL = s.cal.denL := rfl
@[simp] theorem abortRun_cal_binL (c : ErrCode) (s : State) : (s.abortRun c).cal.binL = s.cal.binL := rfl
@[simp] theorem abortRun_cal_waitL (c : ErrCode) (s : State) : (s.abortRun c).cal.waitL = s.cal.waitL := rfl
@[simp] theorem abortRun_cal_c0L (c : ErrCode) (s : State) : (s.abortRun c).cal.c0L = s.cal.c0L := rfl
@[simp] theorem abortRun_cal_c1L (c : ErrCode) (s : State) : (s.abortRun c).cal.c1L = s.cal.c1L := rfl
@[simp] theorem abortRun_cal_c2L (c : ErrCode) (s : State) : (s.abortRun c).cal.c2L = s.cal.c2L := rfl
@[simp] theorem abortRun_cal_calCh (c : ErrCode) (s : State) : (s.abortRun c).cal.calCh = s.cal.calCh := rfl
@[simp] theorem abortRun_cal_acc (c : ErrCode) (s : State) : (s.abortRun c).cal.acc = s.cal.acc := rfl
@[simp] theorem abortRun_cal_lowDelay (c : ErrCode) (s : State) : (s.abortRun c).cal.lowDelay = s.cal.lowDelay := rfl
@[simp] theorem abortRun_life_dev (c : ErrCode) (s : State) : (s.abortRun c).life.dev = s.life.dev := rfl
@[simp] theorem abortRun_life_phase (c : ErrCode) (s : State) : (s.abortRun c).life.phase = s.life.phase := rfl
@[simp] theorem abortRun_life_fatal (c : ErrCode) (s : State) : (s.abortRun c).life.fatal = s.life.fatal := rfl
@[simp] theorem abortRun_life_compRun (c : ErrCode) (s : State) : (s.abortRun c).life.compRun = s.life.compRun := rfl
@[simp] theorem abortRun_rangeFault (c : ErrCode) (s : State) : (s.abortRun c).rangeFault = s.rangeFault := rfl
@[simp] theorem abortRun_hostRdata (c : ErrCode) (s : State) : (s.abortRun c).hostRdata = s.hostRdata := rfl
@[simp] theorem abortRun_drawCtr (c : ErrCode) (s : State) : (s.abortRun c).drawCtr = s.drawCtr := rfl
@[simp] theorem abortRun_sched (c : ErrCode) (s : State) : (s.abortRun c).sched = s.sched := rfl

/-! `commit` -/

@[simp] theorem commit_cmd (off : BitVec 32) (s : State) : (s.commit off).cmd = s.cmd := rfl
@[simp] theorem commit_errCode (off : BitVec 32) (s : State) : (s.commit off).errCode = s.errCode := rfl
@[simp] theorem commit_errOp (off : BitVec 32) (s : State) : (s.commit off).errOp = s.errOp := rfl
@[simp] theorem commit_sticky (off : BitVec 32) (s : State) : (s.commit off).sticky = s.sticky := rfl
@[simp] theorem commit_tvu (off : BitVec 32) (s : State) : (s.commit off).tvu = s.tvu := rfl
@[simp] theorem commit_cfg (off : BitVec 32) (s : State) : (s.commit off).cfg = s.cfg := rfl
@[simp] theorem commit_ring (off : BitVec 32) (s : State) : (s.commit off).ring = s.ring := rfl
@[simp] theorem commit_capt (off : BitVec 32) (s : State) : (s.commit off).capt = s.capt := rfl
@[simp] theorem commit_cal_stateCh (off : BitVec 32) (s : State) : (s.commit off).cal.stateCh = s.cal.stateCh := rfl
@[simp] theorem commit_cal_low (off : BitVec 32) (s : State) : (s.commit off).cal.low = s.cal.low := rfl
@[simp] theorem commit_cal_high (off : BitVec 32) (s : State) : (s.commit off).cal.high = s.cal.high := rfl
@[simp] theorem commit_cal_iter (off : BitVec 32) (s : State) : (s.commit off).cal.iter = s.cal.iter := rfl
@[simp] theorem commit_cal_bias (off : BitVec 32) (s : State) : (s.commit off).cal.bias = s.cal.bias := rfl
@[simp] theorem commit_cal_runMin (off : BitVec 32) (s : State) : (s.commit off).cal.runMin = s.cal.runMin := rfl
@[simp] theorem commit_cal_runMax (off : BitVec 32) (s : State) : (s.commit off).cal.runMax = s.cal.runMax := rfl
@[simp] theorem commit_cal_shotCount (off : BitVec 32) (s : State) : (s.commit off).cal.shotCount = s.cal.shotCount := rfl
@[simp] theorem commit_cal_curTap (off : BitVec 32) (s : State) : (s.commit off).cal.curTap = s.cal.curTap := rfl
@[simp] theorem commit_cal_nL (off : BitVec 32) (s : State) : (s.commit off).cal.nL = s.cal.nL := rfl
@[simp] theorem commit_cal_numL (off : BitVec 32) (s : State) : (s.commit off).cal.numL = s.cal.numL := rfl
@[simp] theorem commit_cal_denL (off : BitVec 32) (s : State) : (s.commit off).cal.denL = s.cal.denL := rfl
@[simp] theorem commit_cal_binL (off : BitVec 32) (s : State) : (s.commit off).cal.binL = s.cal.binL := rfl
@[simp] theorem commit_cal_waitL (off : BitVec 32) (s : State) : (s.commit off).cal.waitL = s.cal.waitL := rfl
@[simp] theorem commit_cal_c0L (off : BitVec 32) (s : State) : (s.commit off).cal.c0L = s.cal.c0L := rfl
@[simp] theorem commit_cal_c1L (off : BitVec 32) (s : State) : (s.commit off).cal.c1L = s.cal.c1L := rfl
@[simp] theorem commit_cal_c2L (off : BitVec 32) (s : State) : (s.commit off).cal.c2L = s.cal.c2L := rfl
@[simp] theorem commit_cal_calCh (off : BitVec 32) (s : State) : (s.commit off).cal.calCh = s.cal.calCh := rfl
@[simp] theorem commit_cal_acc (off : BitVec 32) (s : State) : (s.commit off).cal.acc = s.cal.acc := rfl
@[simp] theorem commit_cal_lowDelay (off : BitVec 32) (s : State) : (s.commit off).cal.lowDelay = s.cal.lowDelay := rfl
@[simp] theorem commit_life_dev (off : BitVec 32) (s : State) : (s.commit off).life.dev = s.life.dev := rfl
@[simp] theorem commit_life_phase (off : BitVec 32) (s : State) : (s.commit off).life.phase = s.life.phase := rfl
@[simp] theorem commit_life_fatal (off : BitVec 32) (s : State) : (s.commit off).life.fatal = s.life.fatal := rfl
@[simp] theorem commit_life_compRun (off : BitVec 32) (s : State) : (s.commit off).life.compRun = s.life.compRun := rfl
@[simp] theorem commit_card (off : BitVec 32) (s : State) : (s.commit off).card = s.card := rfl
@[simp] theorem commit_rangeFault (off : BitVec 32) (s : State) : (s.commit off).rangeFault = s.rangeFault := rfl
@[simp] theorem commit_hostRdata (off : BitVec 32) (s : State) : (s.commit off).hostRdata = s.hostRdata := rfl
@[simp] theorem commit_port (off : BitVec 32) (s : State) : (s.commit off).port = s.port := rfl
@[simp] theorem commit_drawCtr (off : BitVec 32) (s : State) : (s.commit off).drawCtr = s.drawCtr := rfl
@[simp] theorem commit_sched (off : BitVec 32) (s : State) : (s.commit off).sched = s.sched := rfl

/-! `openDevice` -/

@[simp] theorem openDevice_cmd (s : State) : (s.openDevice).cmd = s.cmd := rfl
@[simp] theorem openDevice_errCode (s : State) : (s.openDevice).errCode = s.errCode := rfl
@[simp] theorem openDevice_errOp (s : State) : (s.openDevice).errOp = s.errOp := rfl
@[simp] theorem openDevice_sticky (s : State) : (s.openDevice).sticky = s.sticky := rfl
@[simp] theorem openDevice_tvu (s : State) : (s.openDevice).tvu = s.tvu := rfl
@[simp] theorem openDevice_cfg (s : State) : (s.openDevice).cfg = s.cfg := rfl
@[simp] theorem openDevice_ring_ret (s : State) : (s.openDevice).ring.ret = s.ring.ret := rfl
@[simp] theorem openDevice_capt_drCtx (s : State) : (s.openDevice).capt.drCtx = s.capt.drCtx := rfl
@[simp] theorem openDevice_capt_out (s : State) : (s.openDevice).capt.out = s.capt.out := rfl
@[simp] theorem openDevice_cal_low (s : State) : (s.openDevice).cal.low = s.cal.low := rfl
@[simp] theorem openDevice_cal_high (s : State) : (s.openDevice).cal.high = s.cal.high := rfl
@[simp] theorem openDevice_cal_iter (s : State) : (s.openDevice).cal.iter = s.cal.iter := rfl
@[simp] theorem openDevice_cal_bias (s : State) : (s.openDevice).cal.bias = s.cal.bias := rfl
@[simp] theorem openDevice_cal_runMin (s : State) : (s.openDevice).cal.runMin = s.cal.runMin := rfl
@[simp] theorem openDevice_cal_runMax (s : State) : (s.openDevice).cal.runMax = s.cal.runMax := rfl
@[simp] theorem openDevice_cal_shotCount (s : State) : (s.openDevice).cal.shotCount = s.cal.shotCount := rfl
@[simp] theorem openDevice_cal_curTap (s : State) : (s.openDevice).cal.curTap = s.cal.curTap := rfl
@[simp] theorem openDevice_cal_nL (s : State) : (s.openDevice).cal.nL = s.cal.nL := rfl
@[simp] theorem openDevice_cal_numL (s : State) : (s.openDevice).cal.numL = s.cal.numL := rfl
@[simp] theorem openDevice_cal_denL (s : State) : (s.openDevice).cal.denL = s.cal.denL := rfl
@[simp] theorem openDevice_cal_binL (s : State) : (s.openDevice).cal.binL = s.cal.binL := rfl
@[simp] theorem openDevice_cal_waitL (s : State) : (s.openDevice).cal.waitL = s.cal.waitL := rfl
@[simp] theorem openDevice_cal_c0L (s : State) : (s.openDevice).cal.c0L = s.cal.c0L := rfl
@[simp] theorem openDevice_cal_c1L (s : State) : (s.openDevice).cal.c1L = s.cal.c1L := rfl
@[simp] theorem openDevice_cal_c2L (s : State) : (s.openDevice).cal.c2L = s.cal.c2L := rfl
@[simp] theorem openDevice_cal_calCh (s : State) : (s.openDevice).cal.calCh = s.cal.calCh := rfl
@[simp] theorem openDevice_cal_phase (s : State) : (s.openDevice).cal.phase = s.cal.phase := rfl
@[simp] theorem openDevice_cal_acc (s : State) : (s.openDevice).cal.acc = s.cal.acc := rfl
@[simp] theorem openDevice_cal_lowDelay (s : State) : (s.openDevice).cal.lowDelay = s.cal.lowDelay := rfl
@[simp] theorem openDevice_life_phase (s : State) : (s.openDevice).life.phase = s.life.phase := rfl
@[simp] theorem openDevice_life_fatal (s : State) : (s.openDevice).life.fatal = s.life.fatal := rfl
@[simp] theorem openDevice_life_lock (s : State) : (s.openDevice).life.lock = s.life.lock := rfl
@[simp] theorem openDevice_card (s : State) : (s.openDevice).card = s.card := rfl
@[simp] theorem openDevice_rangeFault (s : State) : (s.openDevice).rangeFault = s.rangeFault := rfl
@[simp] theorem openDevice_hostRdata (s : State) : (s.openDevice).hostRdata = s.hostRdata := rfl
@[simp] theorem openDevice_port (s : State) : (s.openDevice).port = s.port := rfl
@[simp] theorem openDevice_drawCtr (s : State) : (s.openDevice).drawCtr = s.drawCtr := rfl
@[simp] theorem openDevice_sched (s : State) : (s.openDevice).sched = s.sched := rfl

/-! `primeIrq` -/

@[simp] theorem primeIrq_cmd (s : State) : (s.primeIrq).cmd = s.cmd := rfl
@[simp] theorem primeIrq_errCode (s : State) : (s.primeIrq).errCode = s.errCode := rfl
@[simp] theorem primeIrq_errOp (s : State) : (s.primeIrq).errOp = s.errOp := rfl
@[simp] theorem primeIrq_sticky (s : State) : (s.primeIrq).sticky = s.sticky := rfl
@[simp] theorem primeIrq_tvu (s : State) : (s.primeIrq).tvu = s.tvu := rfl
@[simp] theorem primeIrq_cfg (s : State) : (s.primeIrq).cfg = s.cfg := rfl
@[simp] theorem primeIrq_ring (s : State) : (s.primeIrq).ring = s.ring := rfl
@[simp] theorem primeIrq_capt_mode (s : State) : (s.primeIrq).capt.mode = s.capt.mode := rfl
@[simp] theorem primeIrq_capt_drPushed (s : State) : (s.primeIrq).capt.drPushed = s.capt.drPushed := rfl
@[simp] theorem primeIrq_capt_ready (s : State) : (s.primeIrq).capt.ready = s.capt.ready := rfl
@[simp] theorem primeIrq_capt_dropped (s : State) : (s.primeIrq).capt.dropped = s.capt.dropped := rfl
@[simp] theorem primeIrq_capt_lost (s : State) : (s.primeIrq).capt.lost = s.capt.lost := rfl
@[simp] theorem primeIrq_capt_lastValid (s : State) : (s.primeIrq).capt.lastValid = s.capt.lastValid := rfl
@[simp] theorem primeIrq_capt_lastSeq (s : State) : (s.primeIrq).capt.lastSeq = s.capt.lastSeq := rfl
@[simp] theorem primeIrq_capt_delivered (s : State) : (s.primeIrq).capt.delivered = s.capt.delivered := rfl
@[simp] theorem primeIrq_capt_out (s : State) : (s.primeIrq).capt.out = s.capt.out := rfl
@[simp] theorem primeIrq_cal (s : State) : (s.primeIrq).cal = s.cal := rfl
@[simp] theorem primeIrq_life (s : State) : (s.primeIrq).life = s.life := rfl
@[simp] theorem primeIrq_rangeFault (s : State) : (s.primeIrq).rangeFault = s.rangeFault := rfl
@[simp] theorem primeIrq_hostRdata (s : State) : (s.primeIrq).hostRdata = s.hostRdata := rfl
@[simp] theorem primeIrq_drawCtr (s : State) : (s.primeIrq).drawCtr = s.drawCtr := rfl
@[simp] theorem primeIrq_sched (s : State) : (s.primeIrq).sched = s.sched := rfl

/-! What each update writes -/

@[simp] theorem noteOvf_ovf (b : Bool) (s : State) : (s.noteOvf b).sticky.ovf = (s.sticky.ovf || b) := rfl
@[simp] theorem noteNormRange_normRange (b : Bool) (s : State) :
    (s.noteNormRange b).sticky.normRange = (s.sticky.normRange || b) := rfl
@[simp] theorem noteChRange_chRange (b : Bool) (s : State) :
    (s.noteChRange b).sticky.chRange = (s.sticky.chRange || b) := rfl
@[simp] theorem noteNormRange_rangeFault (b : Bool) (s : State) :
    (s.noteNormRange b).rangeFault = (s.rangeFault || b) := rfl
@[simp] theorem noteBusErr_busErr (s : State) : s.noteBusErr.sticky.busErr = true := rfl
@[simp] theorem noteRbOvf_rbOvf (s : State) : s.noteRbOvf.sticky.rbOvf = true := rfl
@[simp] theorem setErr_errCode (c : ErrCode) (op : BitVec 8) (s : State) : (s.setErr c op).errCode = c := rfl
@[simp] theorem setErr_errOp (c : ErrCode) (op : BitVec 8) (s : State) : (s.setErr c op).errOp = op := rfl
@[simp] theorem logTxn_port (t : Txn) (s : State) : (s.logTxn t).port = s.port ++ [t] := rfl
@[simp] theorem dwrite_card (r : WriteReg) (v : Word) (s : State) : (s.dwrite r v).card = s.card.written r v := rfl
@[simp] theorem dwrite_port (r : WriteReg) (v : Word) (s : State) : (s.dwrite r v).port = s.port ++ [.write r v] := rfl
@[simp] theorem popCard_fifo (s : State) : s.popCard.card.fifo = s.card.fifo.tail := rfl
@[simp] theorem emit_out (r : OutRec) (s : State) : (s.emit r).capt.out = s.capt.out ++ [r] := rfl
@[simp] theorem startDrain_dr (m : CapMode) (s : State) : (s.startDrain m).capt.dr = .active := rfl
@[simp] theorem startDrain_drCtx (m : CapMode) (s : State) : (s.startDrain m).capt.drCtx = m := rfl
@[simp] theorem startDrain_drPushed (m : CapMode) (s : State) : (s.startDrain m).capt.drPushed = 0#64 := rfl
@[simp] theorem endDrain_dr (s : State) : s.endDrain.capt.dr = .idle := rfl
@[simp] theorem countDelivery_delivered (x : RawSample) (g : BitVec 16) (s : State) :
    (s.countDelivery x g).capt.delivered = s.capt.delivered + 1#64 := rfl
@[simp] theorem putTime_r (x : TimeResult) (s : State) : (s.putTime x).tvu.r = x.val := rfl
@[simp] theorem putTime_ovf (x : TimeResult) (s : State) : (s.putTime x).sticky.ovf = (s.sticky.ovf || x.ov) := rfl
@[simp] theorem putTime_normRange (x : TimeResult) (s : State) :
    (s.putTime x).sticky.normRange = (s.sticky.normRange || x.nr) := rfl
@[simp] theorem putTime_rangeFault (x : TimeResult) (s : State) :
    (s.putTime x).rangeFault = (s.rangeFault || x.nr) := rfl
@[simp] theorem deliver_rangeFault (x : RawSample) (s : State) :
    (s.deliver x).rangeFault = (s.rangeFault || (deliverTime s.cfg x).nr) := rfl
@[simp] theorem deliver_out (x : RawSample) (s : State) :
    (s.deliver x).capt.out =
      s.capt.out ++ [deliverRecord (deliverTime s.cfg x) x (seqGap s.capt.lastValid s.capt.lastSeq x.seq)] := rfl
@[simp] theorem accumulate_shotCount (v : BitVec 64) (s : State) :
    (s.accumulate v).cal.shotCount = s.cal.shotCount + 1#16 := rfl
@[simp] theorem abortRun_fsm (c : ErrCode) (s : State) : (s.abortRun c).cal.fsm = .idle := rfl
@[simp] theorem abortRun_phase (c : ErrCode) (s : State) : (s.abortRun c).cal.phase = .none := rfl
@[simp] theorem abortRun_err (c : ErrCode) (s : State) : (s.abortRun c).cal.err = c := rfl
@[simp] theorem abortRun_lock (c : ErrCode) (s : State) : (s.abortRun c).life.lock = .free := rfl
@[simp] theorem commit_fsm (off : BitVec 32) (s : State) : (s.commit off).cal.fsm = .converged := rfl
@[simp] theorem commit_phase (off : BitVec 32) (s : State) : (s.commit off).cal.phase = .none := rfl
@[simp] theorem commit_lock (off : BitVec 32) (s : State) : (s.commit off).life.lock = .free := rfl
@[simp] theorem commit_res (off : BitVec 32) (s : State) :
    (s.commit off).cal.res = s.cal.res.set s.cal.calCh ⟨true, s.cal.low, off, s.cal.lowDelay⟩ := rfl
@[simp] theorem ringNew_cap (k : Word) (s : State) : (s.ringNew k).ring.cap = some (k.setWidth 64) := rfl
@[simp] theorem ringNew_slots (k : Word) (s : State) : (s.ringNew k).ring.slots = [] := rfl
@[simp] theorem ringNew_head (k : Word) (s : State) : (s.ringNew k).ring.head = 0#64 := rfl
@[simp] theorem ringNew_tail (k : Word) (s : State) : (s.ringNew k).ring.tail = 0#64 := rfl
@[simp] theorem openDevice_cap (s : State) : s.openDevice.ring.cap = some (s.cfg.rbCap.setWidth 64) := rfl
@[simp] theorem openDevice_slots (s : State) : s.openDevice.ring.slots = [] := rfl
@[simp] theorem openDevice_head (s : State) : s.openDevice.ring.head = 0#64 := rfl
@[simp] theorem openDevice_tail (s : State) : s.openDevice.ring.tail = 0#64 := rfl
@[simp] theorem openDevice_mode (s : State) : s.openDevice.capt.mode = s.cfg.mode := rfl
@[simp] theorem openDevice_dr (s : State) : s.openDevice.capt.dr = .idle := rfl
@[simp] theorem openDevice_dev (s : State) : s.openDevice.life.dev = .opened := rfl
@[simp] theorem openDevice_compRun (s : State) : s.openDevice.life.compRun = true := rfl
@[simp] theorem openDevice_fsm (s : State) : s.openDevice.cal.fsm = .idle := rfl
@[simp] theorem openDevice_res (s : State) : s.openDevice.cal.res = .all CalResult.zero := rfl
@[simp] theorem primeIrq_dr (s : State) : s.primeIrq.capt.dr = .active := rfl
@[simp] theorem primeIrq_drCtx (s : State) : s.primeIrq.capt.drCtx = .irq := rfl

end Sys2Proof.Machine
end

