-- ==== Sys2Proof/Laws/Port.lean ====
section
/-! SUPPORT. The downstream port: what `DRead`, `DWrite`, `ReadTuple` and `TdcWait` can do, and what they leave
unchanged. -/

namespace Sys2Proof.Machine

/-- Two states that differ at most in the card, the record of the port and the counter of free answers: what a downstream
read can change. -/
structure SameBlock (s t : State) : Prop where
  cmd : t.cmd = s.cmd
  errCode : t.errCode = s.errCode
  errOp : t.errOp = s.errOp
  sticky : t.sticky = s.sticky
  tvu : t.tvu = s.tvu
  cfg : t.cfg = s.cfg
  ring : t.ring = s.ring
  capt : t.capt = s.capt
  cal : t.cal = s.cal
  life : t.life = s.life
  rangeFault : t.rangeFault = s.rangeFault
  hostRdata : t.hostRdata = s.hostRdata
  sched : t.sched = s.sched

theorem SameBlock.refl (s : State) : SameBlock s s :=
  ⟨rfl, rfl, rfl, rfl, rfl, rfl, rfl, rfl, rfl, rfl, rfl, rfl, rfl⟩

theorem SameBlock.trans {s t u : State} (h : SameBlock s t) (k : SameBlock t u) : SameBlock s u :=
  ⟨k.cmd.trans h.cmd, k.errCode.trans h.errCode, k.errOp.trans h.errOp, k.sticky.trans h.sticky,
    k.tvu.trans h.tvu, k.cfg.trans h.cfg, k.ring.trans h.ring, k.capt.trans h.capt, k.cal.trans h.cal,
    k.life.trans h.life, k.rangeFault.trans h.rangeFault, k.hostRdata.trans h.hostRdata, k.sched.trans h.sched⟩

theorem headField_sameBlock (f : CardTuple → Word) (s : State) : SameBlock s (s.headField f).2 := by
  unfold State.headField
  split
  · exact .refl s
  · exact ⟨rfl, rfl, rfl, rfl, rfl, rfl, rfl, rfl, rfl, rfl, rfl, rfl, rfl⟩

theorem headField_card (f : CardTuple → Word) (s : State) : (s.headField f).2.card = s.card := by
  unfold State.headField
  split <;> rfl

theorem tdcDraw_sameBlock (s : State) : SameBlock s s.tdcDraw.2 := by
  unfold State.tdcDraw
  split <;> exact ⟨rfl, rfl, rfl, rfl, rfl, rfl, rfl, rfl, rfl, rfl, rfl, rfl, rfl⟩

theorem popCard_sameBlock (s : State) : SameBlock s s.popCard :=
  ⟨rfl, rfl, rfl, rfl, rfl, rfl, rfl, rfl, rfl, rfl, rfl, rfl, rfl⟩

theorem cardAnswer_sameBlock (r : ReadReg) (s : State) : SameBlock s (s.cardAnswer r).2 := by
  cases r with
  | fifoCsr => exact .refl s
  | fifoUtcHi => exact headField_sameBlock _ s
  | fifoUtcLo => exact headField_sameBlock _ s
  | fifoCoarse => exact headField_sameBlock _ s
  | fifoFrac => exact headField_sameBlock _ s
  | fifoMeta => exact (headField_sameBlock _ s).trans (popCard_sameBlock _)
  | tdcStatus => exact tdcDraw_sameBlock s
  | tdcResult => exact tdcDraw_sameBlock s

/-- A downstream read changes no state of the block (spec/20_memory.md R65, R69). -/
theorem dread_sameBlock (r : ReadReg) (s : State) : SameBlock s (s.dread r).2 :=
  (cardAnswer_sameBlock r s).trans ⟨rfl, rfl, rfl, rfl, rfl, rfl, rfl, rfl, rfl, rfl, rfl, rfl, rfl⟩

/-- A downstream read is one `read32` at `DownstreamMap(r)`, with the answer it returns (spec/20_memory.md R65). -/
theorem dread_port (r : ReadReg) (s : State) : (s.dread r).2.port = s.port ++ [.read r (s.dread r).1] := by
  have h : (s.cardAnswer r).2.port = s.port := by
    cases r <;> simp only [State.cardAnswer, State.headField, State.tdcDraw] <;> (try split) <;> rfl
  show (s.cardAnswer r).2.port ++ _ = _
  rw [h]
  rfl

/-- A downstream write changes no state of the block (spec/20_memory.md R65, R69). -/
theorem dwrite_sameBlock (r : WriteReg) (v : Word) (s : State) : SameBlock s (s.dwrite r v) :=
  ⟨rfl, rfl, rfl, rfl, rfl, rfl, rfl, rfl, rfl, rfl, rfl, rfl, rfl⟩

theorem readTuple_sameBlock (s : State) : SameBlock s s.readTuple.2 := by
  unfold State.readTuple
  dsimp only
  refine SameBlock.trans ?_ (dread_sameBlock .fifoMeta _)
  refine SameBlock.trans ?_ (dread_sameBlock .fifoFrac _)
  refine SameBlock.trans ?_ (dread_sameBlock .fifoCoarse _)
  refine SameBlock.trans ?_ (dread_sameBlock .fifoUtcLo _)
  exact dread_sameBlock .fifoUtcHi s

theorem armShot_sameBlock (s : State) : SameBlock s s.armShot := by
  unfold State.armShot
  refine SameBlock.trans ?_ (dwrite_sameBlock .calPulse _ _)
  refine SameBlock.trans ?_ (dwrite_sameBlock .tdcTrig _ _)
  refine SameBlock.trans ?_ (dwrite_sameBlock (.dlyTap _) _ _)
  refine SameBlock.trans ?_ (dwrite_sameBlock .calArm _ _)
  exact dwrite_sameBlock (.chCtrl _) _ s

/-- `TdcWait` changes no state of the block, whatever the answers (spec/43_calibrator.md R185). -/
theorem tdcWait_sameBlock (n : Nat) (s : State) : SameBlock s (s.tdcWait n).2 := by
  induction n generalizing s with
  | zero => exact .refl s
  | succ n ih =>
    unfold State.tdcWait
    simp only
    split
    · exact dread_sameBlock .tdcStatus s
    · split
      · exact (dread_sameBlock .tdcStatus s).trans (dread_sameBlock .tdcResult _)
      · exact (dread_sameBlock .tdcStatus s).trans (ih _)

/-- `TdcWait` fails with TIMEOUT or MEAS_FAIL only (spec/43_calibrator.md R185). -/
theorem tdcWait_failed {n : Nat} {s : State} {code : ErrCode} (h : (s.tdcWait n).1 = .failed code) :
    code = .timeout ∨ code = .measFail := by
  induction n generalizing s with
  | zero => exact .inl (TdcOutcome.failed.inj h).symm
  | succ n ih =>
    unfold State.tdcWait at h
    simp only at h
    split at h
    · exact .inr (TdcOutcome.failed.inj h).symm
    · split at h
      · cases h
      · exact ih h

/-- Bit 0 of the `FIFO_CSR` answer is EMPTY (spec/20_memory.md R66, R67). -/
theorem dread_fifoCsr_empty (s : State) :
    (s.dread .fifoCsr).1.getLsbD 0 = s.card.fifo.isEmpty := by
  show (s.card.fifoCsrRest ++ BitVec.ofBool s.card.fifo.isEmpty).getLsbD 0 = s.card.fifo.isEmpty
  rw [BitVec.getLsbD_append]
  simp

/-- Reading `FIFO_CSR` leaves the card as it is (spec/20_memory.md R69). -/
theorem dread_fifoCsr_card (s : State) : (s.dread .fifoCsr).2.card = s.card := rfl

/-- Reading a field of the head tuple while there is one answers it and leaves the card as it is. -/
theorem headField_cons {s : State} {t : CardTuple} {q : List CardTuple} (h : s.card.fifo = t :: q)
    (f : CardTuple → Word) : s.headField f = (f t, s) := by
  unfold State.headField
  rw [h]

/-- `ReadTuple` on a card FIFO that is not empty: the head tuple's sample, and the FIFO without it
(spec/20_memory.md R67). -/
theorem readTuple_cons {s : State} {t : CardTuple} {q : List CardTuple} (h : s.card.fifo = t :: q) :
    s.readTuple.1 = t.sample ∧ s.readTuple.2 =
      { s with
        card := { s.card with fifo := q }
        port := s.port ++ [.read .fifoUtcHi t.utcHi, .read .fifoUtcLo t.utcLo, .read .fifoCoarse t.coarse,
          .read .fifoFrac t.frac, .read .fifoMeta t.metaWord] } := by
  have h1 : s.dread .fifoUtcHi = (t.utcHi, s.logTxn (.read .fifoUtcHi t.utcHi)) := by
    simp only [State.dread, State.cardAnswer, headField_cons h]
  have h2 : ∀ s' : State, s'.card.fifo = t :: q →
      s'.dread .fifoUtcLo = (t.utcLo, s'.logTxn (.read .fifoUtcLo t.utcLo)) := by
    intro s' hs
    simp only [State.dread, State.cardAnswer, headField_cons hs]
  have h3 : ∀ s' : State, s'.card.fifo = t :: q →
      s'.dread .fifoCoarse = (t.coarse, s'.logTxn (.read .fifoCoarse t.coarse)) := by
    intro s' hs
    simp only [State.dread, State.cardAnswer, headField_cons hs]
  have h4 : ∀ s' : State, s'.card.fifo = t :: q →
      s'.dread .fifoFrac = (t.frac, s'.logTxn (.read .fifoFrac t.frac)) := by
    intro s' hs
    simp only [State.dread, State.cardAnswer, headField_cons hs]
  have h5 : ∀ s' : State, s'.card.fifo = t :: q →
      s'.dread .fifoMeta = (t.metaWord, s'.popCard.logTxn (.read .fifoMeta t.metaWord)) := by
    intro s' hs
    simp only [State.dread, State.cardAnswer, headField_cons hs]
  have k : s.readTuple =
      (CardTuple.sample ⟨t.utcHi, t.utcLo, t.coarse, t.frac, t.metaWord⟩,
        ((((s.logTxn (.read .fifoUtcHi t.utcHi)).logTxn (.read .fifoUtcLo t.utcLo)).logTxn
          (.read .fifoCoarse t.coarse)).logTxn (.read .fifoFrac t.frac)).popCard.logTxn
            (.read .fifoMeta t.metaWord)) := by
    unfold State.readTuple
    simp only [h1, h2 (s.logTxn (.read .fifoUtcHi t.utcHi)) h,
      h3 ((s.logTxn (.read .fifoUtcHi t.utcHi)).logTxn (.read .fifoUtcLo t.utcLo)) h,
      h4 (((s.logTxn (.read .fifoUtcHi t.utcHi)).logTxn (.read .fifoUtcLo t.utcLo)).logTxn
        (.read .fifoCoarse t.coarse)) h,
      h5 ((((s.logTxn (.read .fifoUtcHi t.utcHi)).logTxn (.read .fifoUtcLo t.utcLo)).logTxn
        (.read .fifoCoarse t.coarse)).logTxn (.read .fifoFrac t.frac)) h]
  rw [k]
  simp [State.logTxn, State.popCard, h]

end Sys2Proof.Machine
end

