-- ==== Sys2Proof/Laws/Storage.lean ====
section
/-! SUPPORT. The ring storage: read after write, the canonical form, and what `rb.push` and `rb.pop` can do. -/

namespace Sys2Proof.Machine

/-- Reading a slot after a write: the sample at that slot, every other slot as before. -/
theorem Memory.read_write (m : Memory) (i j : Nat) (x : RawSample) :
    Memory.read (Memory.write m i x) j = if j = i then some x else Memory.read m j := by
  induction m with
  | nil =>
    by_cases h : j = i
    · simp [Memory.write, Memory.read, h]
    · simp [Memory.write, Memory.read, h, Ne.symm h]
  | cons p m ih =>
    unfold Memory.write
    split
    · by_cases h : j = i
      · simp [Memory.read, h]
      · rw [if_neg h, Memory.read, if_neg (Ne.symm h)]
    · split
      · rename_i h1 h2
        subst h2
        by_cases h : j = p.1
        · simp [Memory.read, h]
        · simp [Memory.read, h, Ne.symm h]
      · rename_i h1 h2
        by_cases h : p.1 = j
        · subst h
          simp [Memory.read, Ne.symm h2]
        · simp [Memory.read, h, ih]

@[simp] theorem Memory.read_write_same (m : Memory) (i : Nat) (x : RawSample) :
    Memory.read (Memory.write m i x) i = some x := by simp [Memory.read_write]

theorem Memory.read_write_other (m : Memory) {i j : Nat} (x : RawSample) (h : j ≠ i) :
    Memory.read (Memory.write m i x) j = Memory.read m j := by simp [Memory.read_write, h]

/-- What a written storage lists: the new entry, or an entry of the old one. -/
theorem Memory.mem_write {m : Memory} {i : Nat} {x : RawSample} {p : Nat × RawSample}
    (h : p ∈ Memory.write m i x) : p = (i, x) ∨ p ∈ m := by
  induction m with
  | nil => simpa [Memory.write] using h
  | cons q m ih =>
    unfold Memory.write at h
    split at h
    · simpa using h
    · split at h
      · rcases List.mem_cons.mp h with h | h
        · exact .inl h
        · exact .inr (List.mem_cons_of_mem _ h)
      · rcases List.mem_cons.mp h with h | h
        · exact .inr (h ▸ List.mem_cons_self)
        · exact (ih h).imp id (List.mem_cons_of_mem _)

/-- A write keeps the canonical form. -/
theorem Memory.write_wf {m : Memory} (i : Nat) (x : RawSample) (h : Memory.wf m) :
    Memory.wf (Memory.write m i x) := by
  induction m with
  | nil => simp [Memory.write, Memory.wf]
  | cons p m ih =>
    have hp := (List.pairwise_cons.mp h).1
    have hm := (List.pairwise_cons.mp h).2
    unfold Memory.write
    split
    · rename_i hi
      refine List.pairwise_cons.mpr ⟨fun q hq => ?_, h⟩
      rcases List.mem_cons.mp hq with rfl | hq
      · exact hi
      · exact hi.trans (hp q hq)
    · split
      · rename_i h1 h2
        subst h2
        exact List.pairwise_cons.mpr ⟨hp, hm⟩
      · rename_i h1 h2
        refine List.pairwise_cons.mpr ⟨fun q hq => ?_, ih hm⟩
        rcases Memory.mem_write hq with rfl | hq
        · show p.1 < i
          omega
        · exact hp q hq

/-- A slot that reads as written is listed. -/
theorem Memory.mem_of_read {m : Memory} {i : Nat} {x : RawSample} (h : Memory.read m i = some x) :
    (i, x) ∈ m := by
  induction m with
  | nil => simp [Memory.read] at h
  | cons p m ih =>
    unfold Memory.read at h
    split at h
    · rename_i hi
      have hx : p.2 = x := Option.some.inj h
      subst hi hx
      exact List.mem_cons_self
    · exact List.mem_cons_of_mem _ (ih h)

/-- Storage that exists has the capacity it says. -/
theorem Ring.storage?_eq_some {r : Ring} {c : BitVec 64} :
    r.storage? = some c ↔ r.cap = some c ∧ c ≠ 0#64 := by
  unfold Ring.storage?
  cases h : r.cap with
  | none => simp
  | some d =>
    by_cases hd : d = 0#64
    · simp only [hd, if_true]
      constructor
      · intro h; cases h
      · rintro ⟨h1, h2⟩; exact absurd (Option.some.inj h1).symm h2
    · simp only [hd, if_false]
      constructor
      · intro h; cases h; exact ⟨rfl, hd⟩
      · rintro ⟨h1, _⟩; exact h1

/-- `rb.push` (spec/41_ringbuffer.md R133): the capacity stays, the head moves by one, the slot of the old head holds the
sample, and the tail moves by half the capacity exactly on an overflow. -/
theorem Ring.push_spec (c : BitVec 64) (x : RawSample) (r : Ring) :
    (r.push c x).cap = r.cap ∧ (r.push c x).head = r.head + 1#64 ∧
      (r.push c x).slots = Memory.write r.slots (slotIndex r.head c) x ∧
      ((c ≤ r.head + 1#64 - r.tail ∧ (r.push c x).tail = r.tail + c / 2#64 ∧
          (r.push c x).ret = .overflow (c / 2#64)) ∨
        (¬ c ≤ r.head + 1#64 - r.tail ∧ (r.push c x).tail = r.tail ∧ (r.push c x).ret = .ok)) := by
  unfold Ring.push
  by_cases h : c ≤ r.head + 1#64 - r.tail <;> simp [h]

@[simp] theorem Ring.push_cap (c : BitVec 64) (x : RawSample) (r : Ring) : (r.push c x).cap = r.cap :=
  (r.push_spec c x).1

@[simp] theorem Ring.push_head (c : BitVec 64) (x : RawSample) (r : Ring) :
    (r.push c x).head = r.head + 1#64 := (r.push_spec c x).2.1

@[simp] theorem Ring.push_slots (c : BitVec 64) (x : RawSample) (r : Ring) :
    (r.push c x).slots = Memory.write r.slots (slotIndex r.head c) x := (r.push_spec c x).2.2.1

/-- `rb.pop` (spec/41_ringbuffer.md R136): if it answers a sample, that is the one at the tail, and only the tail moves. -/
theorem Ring.pop_sample {r r' : Ring} {x : RawSample} (h : r.pop = .sample x r') :
    ∃ c, r.cap = some c ∧ c ≠ 0#64 ∧ r.tail ≠ r.head ∧
      Memory.read r.slots (slotIndex r.tail c) = some x ∧
      r' = { r with tail := r.tail + 1#64, ret := .sample x } := by
  unfold Ring.pop at h
  split at h
  · cases h
  · rename_i c hc
    have hs := Ring.storage?_eq_some.mp hc
    split at h
    · cases h
    · split at h
      · cases h
      · rename_i hne _ y hy
        cases h
        exact ⟨c, hs.1, hs.2, hne, hy, rfl⟩

/-- The overflow handling changes the dropped counter and `ST_RBOVF` only (spec/41_ringbuffer.md R134). -/
theorem noteDrop_spec (s : State) :
    (∃ d, s.ring.ret = .overflow d ∧
        s.noteDrop = ({ s with capt := { s.capt with dropped := s.capt.dropped + d } } : State).noteRbOvf) ∨
      ((∀ d, s.ring.ret ≠ .overflow d) ∧ s.noteDrop = s) := by
  unfold State.noteDrop
  cases h : s.ring.ret with
  | overflow d => exact .inl ⟨d, rfl, rfl⟩
  | none => exact .inr ⟨by simp, rfl⟩
  | ok => exact .inr ⟨by simp, rfl⟩
  | empty => exact .inr ⟨by simp, rfl⟩
  | sample x => exact .inr ⟨by simp, rfl⟩

/-- `rb.push` with its overflow handling, where storage exists (spec/41_ringbuffer.md R133, R134). -/
theorem ringPush?_some {s t : State} {x : RawSample} (h : s.ringPush? x = some t) :
    ∃ c, s.ring.cap = some c ∧ c ≠ 0#64 ∧ t = ({ s with ring := s.ring.push c x } : State).noteDrop := by
  unfold State.ringPush? at h
  split at h
  · cases h
  · rename_i c hc
    have hs := Ring.storage?_eq_some.mp hc
    exact ⟨c, hs.1, hs.2, (Option.some.inj h).symm⟩

/-- What a push leaves unchanged. -/
theorem noteDrop_frame (s : State) :
    s.noteDrop.ring = s.ring ∧ s.noteDrop.tvu = s.tvu ∧ s.noteDrop.cfg = s.cfg ∧ s.noteDrop.cal = s.cal ∧
      s.noteDrop.life = s.life ∧ s.noteDrop.card = s.card ∧ s.noteDrop.cmd = s.cmd ∧
      s.noteDrop.errCode = s.errCode ∧ s.noteDrop.errOp = s.errOp ∧ s.noteDrop.port = s.port ∧
      s.noteDrop.drawCtr = s.drawCtr ∧ s.noteDrop.hostRdata = s.hostRdata ∧ s.noteDrop.sched = s.sched ∧
      s.noteDrop.capt = { s.capt with dropped := s.noteDrop.capt.dropped } := by
  rcases noteDrop_spec s with ⟨d, -, h⟩ | ⟨-, h⟩ <;> rw [h] <;> simp [State.noteRbOvf]

@[simp] theorem noteDrop_ring (s : State) : s.noteDrop.ring = s.ring := (noteDrop_frame s).1
@[simp] theorem noteDrop_tvu (s : State) : s.noteDrop.tvu = s.tvu := (noteDrop_frame s).2.1
@[simp] theorem noteDrop_cfg (s : State) : s.noteDrop.cfg = s.cfg := (noteDrop_frame s).2.2.1
@[simp] theorem noteDrop_cal (s : State) : s.noteDrop.cal = s.cal := (noteDrop_frame s).2.2.2.1
@[simp] theorem noteDrop_life (s : State) : s.noteDrop.life = s.life := (noteDrop_frame s).2.2.2.2.1
@[simp] theorem noteDrop_card (s : State) : s.noteDrop.card = s.card := (noteDrop_frame s).2.2.2.2.2.1
@[simp] theorem noteDrop_capt_dr (s : State) : s.noteDrop.capt.dr = s.capt.dr := by
  rw [(noteDrop_frame s).2.2.2.2.2.2.2.2.2.2.2.2.2]
@[simp] theorem noteDrop_capt_drCtx (s : State) : s.noteDrop.capt.drCtx = s.capt.drCtx := by
  rw [(noteDrop_frame s).2.2.2.2.2.2.2.2.2.2.2.2.2]
@[simp] theorem noteDrop_capt_mode (s : State) : s.noteDrop.capt.mode = s.capt.mode := by
  rw [(noteDrop_frame s).2.2.2.2.2.2.2.2.2.2.2.2.2]
@[simp] theorem noteDrop_capt_out (s : State) : s.noteDrop.capt.out = s.capt.out := by
  rw [(noteDrop_frame s).2.2.2.2.2.2.2.2.2.2.2.2.2]
@[simp] theorem noteDrop_capt_drPushed (s : State) : s.noteDrop.capt.drPushed = s.capt.drPushed := by
  rw [(noteDrop_frame s).2.2.2.2.2.2.2.2.2.2.2.2.2]

end Sys2Proof.Machine
end

