-- ==== Sys2Proof/Laws/Ring.lean ====
section
/-! SUPPORT. The ring's counters: slot indexes and the occupancy across the wrap of the counters
(spec/41_ringbuffer.md R131, R138). -/

namespace Sys2Proof.Machine

/-- A legal capacity divides 2^64 (spec/41_ringbuffer.md R138). -/
theorem capLegal.dvd {c : BitVec 64} (h : capLegal c) : c.toNat ∣ 2 ^ 64 := by
  obtain ⟨h1, h2, h3⟩ := h
  rw [← h1]
  apply Nat.pow_dvd_pow
  by_contra hc
  have : 2 ^ 65 ≤ 2 ^ c.toNat.log2 := Nat.pow_le_pow_right (by omega) (by omega)
  have := c.isLt
  omega

/-- A legal capacity is even, so an overflow drops exactly half of it. -/
theorem capLegal.even {c : BitVec 64} (h : capLegal c) : c.toNat / 2 * 2 = c.toNat := by
  obtain ⟨h1, h2, h3⟩ := h
  have : c.toNat.log2 ≠ 0 := by
    intro h0
    rw [h0] at h1
    omega
  obtain ⟨k, hk⟩ := Nat.exists_eq_succ_of_ne_zero this
  rw [hk, Nat.pow_succ] at h1
  omega

theorem capLegal.ne_zero {c : BitVec 64} (h : capLegal c) : c ≠ 0#64 := by
  rintro rfl
  have := h.2.1
  simp at this

/-- Slot index of a counter some samples after another. -/
theorem slotIndex_add {c t : BitVec 64} (h : capLegal c) (i : Nat) :
    slotIndex (t + BitVec.ofNat 64 i) c = (t.toNat + i) % c.toNat := by
  unfold slotIndex
  rw [BitVec.toNat_add, BitVec.toNat_ofNat, Nat.add_mod_mod, Nat.mod_mod_of_dvd _ h.dvd]

/-- Slot index of the head, from the tail and the occupancy. -/
theorem slotIndex_head {c h t : BitVec 64} (hc : capLegal c) :
    slotIndex h c = (t.toNat + (h - t).toNat) % c.toNat := by
  unfold slotIndex
  have e : h = t + (h - t) := by rw [BitVec.add_comm, BitVec.sub_add_cancel]
  conv_lhs => rw [e]
  rw [BitVec.toNat_add, Nat.mod_mod_of_dvd _ hc.dvd]

@[simp] theorem half_toNat (c : BitVec 64) : (c / 2#64).toNat = c.toNat / 2 := by simp

/-- The occupancy after the head has moved, while it is below some capacity. -/
theorem occupancy_succ {h t c : BitVec 64} (hn : (h - t).toNat + 1 ≤ c.toNat) :
    (h + 1#64 - t).toNat = (h - t).toNat + 1 := by
  have := c.isLt
  have e : h + 1#64 - t = (h - t) + 1#64 := by
    rw [BitVec.sub_eq_add_neg, BitVec.sub_eq_add_neg, BitVec.add_assoc, BitVec.add_comm 1#64,
      ← BitVec.add_assoc]
  rw [e, BitVec.toNat_add]
  simp only [BitVec.toNat_ofNat]
  omega

/-- The capacity that `rb.new` accepts is legal (spec/41_ringbuffer.md R132). -/
theorem ringCapOk_legal {k : Word} (h : ringCapOk k = true) : capLegal (k.setWidth 64) := by
  unfold ringCapOk isPow2 at h
  simp only [Bool.and_eq_true, decide_eq_true_eq] at h
  have e : (k.setWidth 64).toNat = k.toNat := by
    rw [BitVec.toNat_setWidth]
    have := k.isLt
    omega
  unfold capLegal
  rw [e]
  exact ⟨h.1.1, h.1.2, h.2⟩

end Sys2Proof.Machine
end

