-- ==== Sys2Proof/Laws/Invariant.lean ====
section
/-! SUPPORT. What the invariant of Safety.lean reads, powers of two, midpoints and channel registers. -/

namespace Sys2Proof.Machine

/-- The invariant reads the ring, the lifecycle, the calibrator and three fields of the drainer. -/
theorem Inv.congr {s t : State} (h : Inv s) (hr : t.ring = s.ring) (hl : t.life = s.life)
    (hc : t.cal = s.cal) (h1 : t.capt.dr = s.capt.dr) (h2 : t.capt.drCtx = s.capt.drCtx)
    (h3 : t.capt.mode = s.capt.mode) : Inv t := by
  obtain ⟨⟨a1, a2, a3, a4, a5, a6, a7⟩, ⟨b1, b2, b3, b4, b5, b6, b7, b8⟩,
    ⟨c1, c2, c3, c4, c5, c6, c7, c8, c9, c10, c11⟩⟩ := h
  constructor <;> constructor <;> simp only [hr, hl, hc, h1, h2, h3] <;> assumption

/-- Downstream transactions keep the invariant. -/
theorem Inv.sameBlock {s t : State} (h : Inv s) (k : SameBlock s t) : Inv t :=
  h.congr k.ring k.life k.cal (by rw [k.capt]) (by rw [k.capt]) (by rw [k.capt])

/-- The register of a channel after a write of a channel's register. -/
theorem Quad.get_set {α : Type} (q : Quad α) (a b : Chan) (x : α) :
    (q.set a x).get b = if b = a then x else q.get b := by
  cases a <;> cases b <;> rfl

theorem isPow2_iff {k : Nat} : isPow2 k = true ↔ ∃ n, k = 2 ^ n := by
  unfold isPow2
  rw [decide_eq_true_eq]
  constructor
  · intro h
    exact ⟨k.log2, h.symm⟩
  · rintro ⟨n, rfl⟩
    rw [Nat.log2_two_pow]

theorem one_le_rbCapMaxLog2 : 1 ≤ Config.rbCapMaxLog2 := Nat.le_add_right 1 _

/-- The capacities `rb.new` accepts: the powers of two from 2 to 2^RB_CAP_MAX_LOG2 (spec/41_ringbuffer.md R132). -/
theorem ringCapOk_iff {k : Word} :
    ringCapOk k = true ↔ ∃ n, 1 ≤ n ∧ n ≤ Config.rbCapMaxLog2 ∧ k.toNat = 2 ^ n := by
  unfold ringCapOk
  simp only [Bool.and_eq_true, decide_eq_true_eq, isPow2_iff]
  constructor
  · rintro ⟨⟨⟨n, hn⟩, h2⟩, h3⟩
    rw [hn] at h2 h3
    refine ⟨n, ?_, (Nat.pow_le_pow_iff_right (by omega)).mp h3, hn⟩
    by_contra h
    obtain rfl : n = 0 := by omega
    simp at h2
  · rintro ⟨n, h1, h2, h3⟩
    rw [h3]
    exact ⟨⟨⟨n, rfl⟩, by simpa using Nat.pow_le_pow_right (n := 2) (by omega) h1⟩,
      Nat.pow_le_pow_right (by omega) h2⟩

/-- The repeat counts `cal.start` accepts (spec/43_calibrator.md R180). -/
theorem calN_iff {k : Nat} : (isPow2 k = true ∧ k ≤ 2 ^ Config.calNMaxLog2) ↔
    ∃ n, n ≤ Config.calNMaxLog2 ∧ k = 2 ^ n := by
  rw [isPow2_iff]
  constructor
  · rintro ⟨⟨n, rfl⟩, h⟩
    exact ⟨n, (Nat.pow_le_pow_iff_right (by omega)).mp h, rfl⟩
  · rintro ⟨n, h, rfl⟩
    exact ⟨⟨n, rfl⟩, Nat.pow_le_pow_right (by omega) h⟩

theorem Chan.ofNat?_eq_some {n : Nat} {c : Chan} : Chan.ofNat? n = some c ↔ n = c.toNat := by
  rcases n with _ | _ | _ | _ | n <;> cases c <;> simp [Chan.ofNat?, Chan.toNat]

theorem Chan.ofNat?_eq_none {n : Nat} : Chan.ofNat? n = none ↔ 4 ≤ n := by
  rcases n with _ | _ | _ | _ | n <;> simp [Chan.ofNat?]

theorem running_iff {c : Calibrator} :
    c.running = true ↔ c.fsm = .measuringBias ∨ c.fsm = .binarySearching := by
  unfold Calibrator.running
  cases c.fsm <;> simp

theorem not_running_iff {c : Calibrator} : c.running = false ↔ c.fsm = .idle ∨ c.fsm = .converged := by
  unfold Calibrator.running
  cases c.fsm <;> simp

/-- A midpoint lies strictly between bounds that are more than 1 apart (spec/43_calibrator.md R190). -/
theorem midTap_between {l h : BitVec 16} (hh : h.toNat ≤ Config.tapMax) (hl : l.toNat + 1 < h.toNat) :
    l.toNat < (midTap l h).toNat ∧ (midTap l h).toNat < h.toNat ∧
      (midTap l h).toNat = (l.toNat + h.toNat) / 2 := by
  unfold midTap
  rw [BitVec.toNat_ofNat]
  have : Config.tapMax = 1023 := rfl
  omega

/-- The fatal teardown (spec/44_device.md R221). -/
theorem fatalTeardown_cases (s : State) :
    (s.life.dev = .opened ∧
        s.fatalTeardown = { s with life := { s.life with fatal := true, dev := .closing, phase := .stopCapture } }) ∨
      (s.life.dev ≠ .opened ∧ s.fatalTeardown = { s with life := { s.life with fatal := true } }) := by
  unfold State.fatalTeardown
  cases h : s.life.dev <;> simp

/-- Bit 27 of a raw coarse count (spec/40_timevalue.md R114). -/
theorem coarse_bit27 {c : BitVec 32} (h : c.toNat < 2 ^ 28) : c.getLsbD 27 = true ↔ 2 ^ 27 ≤ c.toNat := by
  rw [BitVec.getLsbD, Nat.testBit_eq_decide_div_mod_eq, decide_eq_true_eq]
  omega

end Sys2Proof.Machine
end

