-- ==== Sys2Proof/Laws/PerInstr.lean ====
section
/-! SUPPORT. Lemmas made per instruction: one for each constructor of Instr. -/

namespace Sys2Proof.Laws

/-- The word of an instruction has its reserved bits clear, and its channel field too unless it takes a channel
(spec/30_encoding.md R86). -/
def ReservedBits.Statement (i : Instr) : Prop :=
  ∀ w, encode i = some w → wordRsv w = 0#20 ∧ (wordCh w = 0#4 ∨ ∃ ch, i = .calStart ch)

theorem reservedBits_of {i : Instr} {opc : BitVec 8} (h : encode i = some (commandWord opc 0#4)) :
    ReservedBits.Statement i := by
  intro w hw
  rw [h] at hw
  cases hw
  have f := commandWord_fields opc 0#4
  exact ⟨f.1, .inl f.2.1⟩

theorem ReservedBits.nop : ReservedBits.Statement .nop := reservedBits_of rfl
theorem ReservedBits.tvNorm : ReservedBits.Statement .tvNorm := reservedBits_of rfl
theorem ReservedBits.tvAdd : ReservedBits.Statement .tvAdd := reservedBits_of rfl
theorem ReservedBits.tvSub : ReservedBits.Statement .tvSub := reservedBits_of rfl
theorem ReservedBits.tvP2t : ReservedBits.Statement .tvP2t := reservedBits_of rfl
theorem ReservedBits.tvT2p : ReservedBits.Statement .tvT2p := reservedBits_of rfl
theorem ReservedBits.devOpen : ReservedBits.Statement .devOpen := reservedBits_of rfl
theorem ReservedBits.devClose : ReservedBits.Statement .devClose := reservedBits_of rfl
theorem ReservedBits.calStart (ch : BitVec 4) : ReservedBits.Statement (.calStart ch) :=
  fun _ h => by cases h; exact ⟨(commandWord_fields opcCalStart ch).1, .inr ⟨ch, rfl⟩⟩
theorem ReservedBits.rbNew : ReservedBits.Statement .rbNew := fun _ h => nomatch h
theorem ReservedBits.rbPush (x : RawSample) : ReservedBits.Statement (.rbPush x) := fun _ h => nomatch h
theorem ReservedBits.rbPop : ReservedBits.Statement .rbPop := fun _ h => nomatch h
theorem ReservedBits.capTick : ReservedBits.Statement .capTick := fun _ h => nomatch h
theorem ReservedBits.capIrq : ReservedBits.Statement .capIrq := fun _ h => nomatch h
theorem ReservedBits.capDrainStep : ReservedBits.Statement .capDrainStep := fun _ h => nomatch h
theorem ReservedBits.capDrainFinish : ReservedBits.Statement .capDrainFinish := fun _ h => nomatch h
theorem ReservedBits.capDeliver : ReservedBits.Statement .capDeliver := fun _ h => nomatch h
theorem ReservedBits.calShot : ReservedBits.Statement .calShot := fun _ h => nomatch h
theorem ReservedBits.calPoint : ReservedBits.Statement .calPoint := fun _ h => nomatch h
theorem ReservedBits.calFit : ReservedBits.Statement .calFit := fun _ h => nomatch h
theorem ReservedBits.lcStopCapture : ReservedBits.Statement .lcStopCapture := fun _ h => nomatch h
theorem ReservedBits.lcStopComp : ReservedBits.Statement .lcStopComp := fun _ h => nomatch h
theorem ReservedBits.lcRelease : ReservedBits.Statement .lcRelease := fun _ h => nomatch h

end Sys2Proof.Laws
end

