-- ==== Sys2Proof/Tests/Slice0.lean ====
section
/-! SUPPORT. The model's own tests: the refusals of WellFormed, decoding of words written out from spec/30_encoding.md, one
step per operation against the vectors of spec/95_test_vectors.md and the rules' own examples, and, for each statement
with hypotheses, a concrete state and operands that meet them. -/

namespace Sys2Proof.Tests

open Sys2Proof.Machine

/-- A test of the state that an outcome leaves; false for a fault or a refusal. -/
def after (r : Result) (f : State → Bool) : Bool :=
  match r with
  | .next t => f t
  | .fault _ => false
  | .refused _ => false

/-- A TimeValue (utc, coarse, frac) with channel and seq 0. -/
def tv (u : Int) (c f : Nat) : TimeValue := ⟨BitVec.ofInt 64 u, BitVec.ofNat 32 c, BitVec.ofNat 16 f, 0#8, 0#16⟩

/-- Reset, with A and B. -/
def sTv (a b : TimeValue) : State := { State.reset with tvu := { State.reset.tvu with a := a, b := b } }

/-- Reset, with a schedule. -/
def sSched (l : List Event) : State := { State.reset with sched := l }

/-- A sample of channel 0 with the given seq. -/
def smp (n : Nat) : RawSample := ⟨10#64, 5#32, 7#16, 0#8, BitVec.ofNat 16 n⟩

/-- Capacity 2, which every choice of RB_CAP_MAX_LOG2 allows, head 5, tail 4: one live sample in slot 0. -/
def tRing : Ring := ⟨some 2#64, [(0, smp 5)], 5#64, 4#64, .none⟩

/-- Capacity 8, head 9, tail 4: five live samples in the slots 4, 5, 6, 7 and 0. -/
def tRing8 : Ring := ⟨some 8#64, [(0, smp 9), (4, smp 5), (5, smp 6), (6, smp 7), (7, smp 8)], 9#64, 4#64, .none⟩

/-- Reset, with that ring, OPEN. -/
def sRing : State :=
  { State.reset with ring := tRing, life := { State.reset.life with dev := .opened, compRun := true } }

/-- `sRing` with the ring of capacity 8. -/
def sRing8 : State := { sRing with ring := tRing8 }

/-- Capacity 8 with head 7 and tail 0: the next push overflows. -/
def sFull : State := { sRing with ring := { tRing8 with head := 7#64, tail := 0#64 } }

/-- The host's calibration configuration: N, scale 3/1, a bin of 1 ps, 65535 polls. -/
def calCfg (n : Word) : HostCfg :=
  { State.reset.cfg with
    calN := n, scaleNum := 3#32, scaleDen := 1#32, binFp := 65536#32, waitMax := 65535#32 }

/-- OPEN with that configuration, the self-test good, no run. -/
def sCal (n : Word) : State :=
  { sRing with cfg := calCfg n, card := { State.reset.card with selftestOk := true } }

/-- The downstream transactions that an outcome's state records. -/
def portOf (r : Result) : List Txn :=
  match r with
  | .next t => t.port
  | .fault _ => []
  | .refused _ => []

/-- OPEN in interrupt mode, a drain finishing, the interrupt enabled. -/
def sIrq (l : List Event) : State :=
  { sRing with
    capt := { State.reset.capt with mode := .irq, dr := .finish, drCtx := .irq }
    card := { State.reset.card with irqEn := true }
    sched := l }

/-- A run in BinarySearching on channel 1, with n_l = n and k shots taken at the midpoint 511. -/
def searchingN (n : Word) (k : BitVec 16) : Calibrator :=
  { State.reset.cal with
    fsm := .binarySearching
    phase := .search
    calCh := .ch1
    stateCh := .ch1
    nL := n
    numL := 3#32
    denL := 1#32
    binL := 65536#32
    waitL := 2#32
    low := 0#16
    high := 1023#16
    curTap := 511#16
    shotCount := k }

/-- That run with n_l = 2. -/
def searching (k : BitVec 16) : Calibrator := searchingN 2#32 k

/-- `sIrq` with that run, with n_l = 1, which every choice of CAL_N_MAX_LOG2 allows. -/
def sSearch (k : BitVec 16) (draws : List Word) (l : List Event) : State :=
  { sIrq l with
    cal := searchingN 1#32 k
    life := { sRing.life with lock := .cal }
    card := { (sIrq l).card with tdcDraws := draws } }

/-- A run at its fit: `low` 266, `TEMP` 400 and the coefficients of the example of spec/43_calibrator.md R192. -/
def sFit (l : List Event) : State :=
  { sSearch 0#16 [] l with
    cal :=
      { searching 0#16 with
        phase := .fit
        low := 266#16
        high := 267#16
        c0L := BitVec.ofInt 64 (-1048576)
        c1L := 2147483648#64
        c2L := 257698037760#64 }
    card := { State.reset.card with temp := 400#16 } }

/-- CLOSING in a teardown phase, in interrupt mode. -/
def sDown (p : LcPhase) : State :=
  { sIrq [] with
    capt := { (sIrq []).capt with dr := .idle }
    life := { State.reset.life with dev := .closing, phase := p, compRun := true } }

/-- A tuple of the card FIFO: (10, 5, 0, channel 0, seq 11), with bits above its fields set. -/
def tup : CardTuple := ⟨0#32, 10#32, 0xF0000005#32, 0xFFFFF000#32, 0xFF00000B#32⟩

/-! ## WellFormed -/

theorem test_wellFormed_refuses_coarse :
    Instr.wellFormed (.rbPush { smp 1 with coarse := 0x10000000#32 }) = false := by decide

theorem test_wellFormed_refuses_frac : Instr.wellFormed (.rbPush { smp 1 with frac := 4096#16 }) = false := by decide

theorem test_wellFormed_accepts :
    Instr.wellFormed (.rbPush { smp 1 with coarse := 0x0FFFFFFF#32, frac := 4095#16 }) = true := by decide

/-! ## Decoding: words written out from the fields of spec/30_encoding.md R86 and the map of R88 -/

theorem test_decode_tv : decode 0x00000001#32 = .ok .tvNorm ∧ decode 0x00000002#32 = .ok .tvAdd ∧
    decode 0x00000003#32 = .ok .tvSub ∧ decode 0x00000004#32 = .ok .tvP2t ∧
    decode 0x00000005#32 = .ok .tvT2p := by decide

theorem test_decode_dev : decode 0x00000000#32 = .ok .nop ∧ decode 0x00000010#32 = .ok .devOpen ∧
    decode 0x00000011#32 = .ok .devClose := by decide

/-- `cal.start 2` is 0x0000_0220 (spec/30_encoding.md R96); every CH decodes (R87). -/
theorem test_decode_cal : decode 0x00000220#32 = .ok (.calStart 2#4) ∧
    decode 0x00000F20#32 = .ok (.calStart 15#4) := by decide

/-- The examples of spec/60_exceptions.md R244. -/
theorem test_decode_illegal : decode 0x00000006#32 = .error .reservedOpcode ∧
    decode 0x00000101#32 = .error .channelNotZero ∧ decode 0x00001001#32 = .error .reservedBits := by decide

theorem test_decodeTableWord : decodeTableWord 32 0x220 = some (.calStart 2#4) ∧
    decodeTableWord 32 0x6 = none := by decide

/-! ## The TimeValue unit: spec/95_test_vectors.md section 2.1 and the examples of spec/40_timevalue.md -/

theorem test_tvNorm : after (exec .tvNorm (sTv (tv 10 0xFFFFFFF 7) TimeValue.zero))
    (fun t => t.tvu.r = tv 9 124999999 7 && readCsr t .err = 0x00000100#32) = true := by decide

theorem test_tvNorm_band : after (exec .tvNorm (sTv (tv 10 0x8000000 7) TimeValue.zero))
    (fun t => t.tvu.r = tv 9 259217728 7 && readCsr t .status = 0x00000200#32 && t.rangeFault) = true := by decide

theorem test_tvAdd : after (exec .tvAdd (sTv (tv 5 124999999 4095) (tv 1 0 1)))
    (fun t => t.tvu.r = tv 7 0 0 && readCsr t .err = 0x00000200#32) = true := by decide

theorem test_tvAdd_wrap : after (exec .tvAdd (sTv (tv 9223372036854775807 124999999 0) (tv 0 1 0)))
    (fun t => t.tvu.r = tv (-9223372036854775808) 0 0 && readCsr t .status = 0x00000100#32) = true := by decide

theorem test_tvSub : after (exec .tvSub (sTv (tv 7 0 0) (tv 1 0 1)))
    (fun t => t.tvu.r = tv 5 124999999 4095) = true := by decide

theorem test_tvSub_domain : after (exec .tvSub (sTv (tv 0 125000000 0) (tv 0 0 0)))
    (fun t => t.tvu.r = tv 0 0 0 && readCsr t .err = 0x00000305#32) = true := by decide

theorem test_tvP2t : after
    (exec .tvP2t { State.reset with tvu := { State.reset.tvu with psIn := BitVec.ofInt 64 (-1) } })
    (fun t => t.tvu.r = tv (-1) 124999999 4095) = true := by decide

theorem test_tvT2p : after (exec .tvT2p (sTv (tv 1 1 0) TimeValue.zero))
    (fun t => t.tvu.psOut = 1000000008000#64) = true := by decide

/-! ## The ring: spec/41_ringbuffer.md -/

/-- Capacity 7 is rejected (S4 of spec/95_test_vectors.md). -/
theorem test_rbNew_seven : after (exec .rbNew { State.reset with cfg := { State.reset.cfg with rbCap := 7#32 } })
    (fun t => t.ring.cap = none && t.errCode = .config) = true := by decide

/-- The example of R133. -/
theorem test_rbPush_overflow : after (exec (.rbPush (smp 8)) sFull)
    (fun t => t.ring.head = 8#64 && t.ring.tail = 4#64 && t.capt.dropped = 4#64 && t.sticky.rbOvf) = true := by
  decide

/-- The example of R136. -/
theorem test_rbPop : after (exec .rbPop sRing8)
    (fun t => t.ring.ret = .sample (smp 5) && t.ring.tail = 5#64) = true := by decide

/-! ## Capture: the examples of spec/42_capture.md -/

theorem test_capTick : after (exec .capTick sRing) (fun t => t.capt.dr = .active && t.capt.drCtx = .poll) = true := by
  decide

theorem test_capIrq_not_pending : after (exec .capIrq (sIrq [])) (fun t => t.capt.dr = .finish) = true := by decide

/-- The example of R147: the tuple (10, 5, 0, 0, 11) is read and pushed. -/
theorem test_capDrainStep : after
    (exec .capDrainStep
      { sRing8 with
        capt := { sRing.capt with dr := .active }, card := { State.reset.card with fifo := [tup] } })
    (fun t => t.ring.head = 10#64 && t.ring.tail = 4#64 && t.card.fifo = [] &&
      Memory.read t.ring.slots 1 = some ⟨10#64, 5#32, 0#16, 0#8, 11#16⟩) = true := by decide

/-- An IRQ drain that pushed 3 samples acknowledges, reads EMPTY = 1, sets READY and goes IDLE (R151). -/
theorem test_capDrainFinish : after
    (exec .capDrainFinish { sIrq [] with capt := { (sIrq []).capt with drPushed := 3#64 } })
    (fun t => t.capt.ready && t.capt.dr = .idle && t.port.length = 2) = true := by decide

/-- The example of R155. -/
theorem test_capDeliver : after
    (exec .capDeliver
      { sRing with ring := { tRing with slots := [(0, ⟨10#64, 0xFFFFFFF#32, 7#16, 0#8, 5#16⟩)] } })
    (fun t => t.capt.out = [⟨9#64, 124999999#32, 7#16, 0#8, 5#16, 0#16, 0#8⟩]) = true := by decide

/-- seq 11 and then 13: a gap of 1 (S6 of spec/95_test_vectors.md). -/
theorem test_capDeliver_gap : after
    (exec .capDeliver
      { sRing with
        ring := { tRing with slots := [(0, smp 13)] }
        capt := { sRing.capt with lastValid := true, lastSeq := 11#16 } })
    (fun t => t.capt.lost = 1#64 && t.capt.out.map OutRec.gap = [1#16]) = true := by decide

/-! ## The calibrator: the examples of spec/43_calibrator.md -/

/-- N = 1 is legal, whatever CAL_N_MAX_LOG2 is (spec/43_calibrator.md R180). -/
theorem test_calCfg_one : (calCfg 1#32).calOk = true := by
  have h : (1#32).toNat ≤ 2 ^ Config.calNMaxLog2 := Nat.one_le_two_pow
  simp only [HostCfg.calOk, Bool.and_eq_true, decide_eq_true_eq]
  exact ⟨⟨⟨⟨by decide, h⟩, by decide⟩, by decide⟩, by decide⟩

/-- The example of R180: CAL_STATE is 0x0000_0005. -/
theorem test_calStart : after (exec (.calStart 1#4) (sCal 1#32))
    (fun t => readCsr t .calState = 0x00000005#32 && readCsr t .err = 0x00002000#32) = true := by
  have h : (sCal 1#32).cfg.calOk = true := test_calCfg_one
  simp only [exec, execCalStart, h]
  decide

/-- HW_FAULT is fatal (spec/60_exceptions.md R240). -/
theorem test_calStart_hwFault : after (exec (.calStart 1#4) { sCal 1#32 with card := State.reset.card })
    (fun t => readCsr t .err = 0x00002002#32 && readCsr t .status = 0x0000200A#32) = true := by
  have h : ({ sCal 1#32 with card := State.reset.card } : State).cfg.calOk = true := test_calCfg_one
  simp only [exec, execCalStart, h]
  decide

/-- The example of R184: raw 6110 at scale 3/1 and 1 ps accumulates 18330 ps. -/
theorem test_calShot : after (exec .calShot (sSearch 0#16 [1#32, 6110#32] []))
    (fun t => t.cal.acc = 18330#64 && t.port.length = 7) = true := by decide

/-- The transactions of that shot, each at the address of its register (spec/20_memory.md R65). -/
theorem test_calShot_port : portOf (exec .calShot (sSearch 0#16 [1#32, 6110#32] [])) =
    [.write32 (Config.downstreamMap (.wr (.chCtrl .ch1))) 0#32, .write32 (Config.downstreamMap (.wr .calArm)) 2#32,
      .write32 (Config.downstreamMap (.wr (.dlyTap .ch1))) 511#32,
      .write32 (Config.downstreamMap (.wr .tdcTrig)) 1#32, .write32 (Config.downstreamMap (.wr .calPulse)) 1#32,
      .read32 (Config.downstreamMap (.rd .tdcStatus)) 1#32,
      .read32 (Config.downstreamMap (.rd .tdcResult)) 6110#32] := by rfl

/-- TIMEOUT after `wait_l` polls (R185, R197). -/
theorem test_calShot_timeout : after (exec .calShot (sSearch 0#16 [0#32, 0#32] []))
    (fun t => t.cal.err = .timeout && t.life.lock = .free && t.cal.fsm = .idle) = true := by decide

/-- The example of R187: two shots of 3000 and 3003 ps average 3001; the first midpoint is 511 (R188). -/
theorem test_calPoint_bias : after
    (exec .calPoint
      { sRing with
        cal := { searching 2#16 with fsm := .measuringBias, phase := .bias, curTap := 0#16, acc := 6003#64 } })
    (fun t => t.cal.bias = 3001#64 && t.cal.curTap = 511#16) = true := by decide

/-- A difference of exactly 8000 moves `high` (R189). -/
theorem test_calPoint_search : after (exec .calPoint { sRing with cal := { searching 2#16 with acc := 16000#64 } })
    (fun t => t.cal.high = 511#16 && t.cal.low = 0#16 && t.cal.curTap = 255#16) = true := by decide

/-- The example of R192: p = 220 and `offset_from_fit` = 46. -/
theorem test_calFit : after (exec .calFit (sFit []))
    (fun t => readCsr t (.resTap .ch1) = 0x8000010A#32 && readCsr t (.resOffset .ch1) = 46#32) = true := by decide

/-! ## The device: the examples of spec/44_device.md -/

theorem test_nop : after (exec .nop { State.reset with errCode := .domain, errOp := 1#8 })
    (fun t => readCsr t .err = 0#32) = true := by decide

/-- `dev.open` with a legal capacity, in polled mode (spec/44_device.md R216). -/
theorem execDevOpen_polled {s : State} (h1 : ¬ (s.life.fatal = true ∨ s.life.dev ≠ .closed))
    (h2 : ringCapOk s.cfg.rbCap = true) (h3 : s.cfg.mode = .poll) :
    execDevOpen s = complete opcDevOpen s.openDevice := by
  simp only [execDevOpen, if_neg h1, h2, h3]
  rfl

/-- The example of R216, with a capacity of 2, which is legal whatever RB_CAP_MAX_LOG2 is. -/
theorem test_devOpen : after (exec .devOpen { State.reset with cfg := { State.reset.cfg with rbCap := 2#32 } })
    (fun t => readCsr t .err = 0x00001000#32 && readCsr t .status = 0x00002001#32) = true := by
  have h : ringCapOk ({ State.reset with cfg := { State.reset.cfg with rbCap := 2#32 } } : State).cfg.rbCap = true :=
    ringCapOk_iff.mpr ⟨1, le_rfl, one_le_rbCapMaxLog2, rfl⟩
  rw [exec, execDevOpen_polled (by decide) h rfl]
  decide

/-- The example of R218. -/
theorem test_devClose : after (exec .devClose sRing)
    (fun t => readCsr t .err = 0x00001100#32 && t.life.dev = .closing) = true := by decide

theorem test_lcStopCapture : after (exec .lcStopCapture (sDown .stopCapture))
    (fun t => t.life.phase = .stopComp && t.card.irqEn = false) = true := by decide

theorem test_lcStopComp : after (exec .lcStopComp (sDown .stopComp))
    (fun t => t.life.phase = .release && t.life.compRun = false) = true := by decide

theorem test_lcRelease : after (exec .lcRelease (sDown .release))
    (fun t => t.life.dev = .closed && t.ring.cap = none && readCsr t (.rbHead .lo) = 5#32) = true := by decide

/-- A step runs the word placed for it, as the first after reset: `dev.open` before configuring raises CONFIG
(spec/70_reset_and_hazards.md R266). -/
theorem test_withFetchWord : after (step (State.reset.withFetchWord 32 0x10))
    (fun t => readCsr t .err = 0x00001001#32 && t.cmd = 0x10#32) = true := by decide

theorem test_reset_memory_wf : Memory.wf State.reset.ring.slots := by decide

/-! ## Witnesses: concrete states and operands that meet the hypotheses of the statements -/

theorem witness_DecodeEncode : Instr.wellFormed (.calStart 15#4) = true ∧
    encode (.calStart 15#4) = some 0x00000F20#32 := by decide

theorem witness_EncodeDecode : decode 0x00000F20#32 = .ok (.calStart 15#4) := by decide

theorem witness_OpcodeMapSelects : (⟨"cal.start", 0x00000020#32, 0xFFFFF0FF#32⟩ : OpcodeRow) ∈ opcodeMap ∧
    0x00000F20#32 &&& 0xFFFFF0FF#32 = 0x00000020#32 := by decide

/-- The ends of the reserved ranges of spec/30_encoding.md R90, and words next to them that decode. -/
theorem witness_IllegalWordsReportIllegal :
    [0x06#32, 0x0F#32, 0x12#32, 0x1F#32, 0x21#32, 0xFF#32, 0x101#32, 0x111#32, 0x1000#32].all
      (fun w => !(decode w).toBool) = true ∧
    [0x00#32, 0x05#32, 0x10#32, 0x11#32, 0x20#32, 0xF20#32].all (fun w => (decode w).toBool) = true ∧
    (sSched [.hostWrite 0x004 0x06#32]).sched = .hostWrite 0x004 0x06#32 :: [] := by decide

theorem witness_StepRunsDecodedCommand :
    (sSched [.hostWrite 0x004 0x03#32]).sched = .hostWrite 0x004 0x03#32 :: [] ∧
      decode 0x03#32 = .ok .tvSub := by decide

theorem witness_AgentsRunTheirOperations :
    (sSched [.envTick]).sched = .envTick :: [] ∧ (sSched [.deliverer]).sched = .deliverer :: [] ∧
    ((sSched [.drainer]).sched = .drainer :: [] ∧ (sSched [.drainer]).capt.dr = .idle) ∧
    (sIrq [.drainer]).capt.dr = .finish ∧
    ((sSearch 0#16 [] [.calibrator]).cal.phase = .search ∧
      (sSearch 0#16 [] [.calibrator]).cal.shotCount.toNat < (sSearch 0#16 [] [.calibrator]).cal.nL.toNat) ∧
    (sSearch 1#16 [] [.calibrator]).cal.shotCount.toNat = (sSearch 1#16 [] [.calibrator]).cal.nL.toNat ∧
    (sFit [.calibrator]).cal.phase = .fit ∧ (sDown .release).life.phase = .release := by decide

/-- The first and the last register of the window. -/
theorem witness_HostReadHasNoSideEffect : (sSched [.hostRead 0x000]).sched = .hostRead Csr.id.offset :: [] ∧
    (sSched [.hostRead 0x29C]).sched = .hostRead (Csr.resDelay .ch3 .hi).offset :: [] := by decide

theorem witness_HostWriteReadsBack :
    ((sSched [.hostWrite 0x050 5#32]).sched = .hostWrite (Csr.opB .metaWord).offset 5#32 :: [] ∧
      (Csr.opB .metaWord).kind = .rw 0x00FFFFFF#32) ∧
    ((sSched [.hostWrite 0x008 5#32]).sched = .hostWrite Csr.status.offset 5#32 :: [] ∧
      Csr.status.kind = .ro) := by decide

/-- A misaligned offset, the first offset above the window, and the first reserved one. -/
theorem witness_BusErrorEffect : busErrorAt 0x002 ∧ busErrorAt 0x400 ∧ busErrorAt 0x018 :=
  ⟨.inl (by decide), .inr (.inl (by decide)), .inr (.inr (csrAt_eq_none.mp (by decide)))⟩

theorem witness_StatusClrClearsStickyBits :
    (sSched [.hostWrite 0x010 0x1F00#32]).sched = .hostWrite 0x010 0x1F00#32 :: [] := by decide

theorem witness_RegisterPairsAndOperandSets : (Csr.psIn .hi).offset = 0x084 ∧ (Csr.psIn .lo).offset = 0x080 ∧
    (Csr.opR .metaWord).offset = 0x070 := by decide

/-- Raw operands at both ends of each branch of `Normalize`, and two that are not raw. -/
theorem witness_TvNormResult :
    (∀ c ∈ [0x0000000, 124999999, 125000000, 0x7FFFFFF, 0x8000000, 0xFFFFFFF],
      (tv 10 c 4095).coarse.toNat < 2 ^ 28 ∧ (tv 10 c 4095).frac.toNat < 4096) ∧
    ¬ (tv 10 0x10000000 0).coarse.toNat < 2 ^ 28 ∧ ¬ (tv 10 0 4096).frac.toNat < 4096 := by decide

/-- The two ends of the band of spec/40_timevalue.md R115, and the counts next to them. -/
theorem witness_NormalizeRangeBand :
    (∀ c ∈ [0x7FFFFFF, 0x8000000, 0x88CA6BF, 0x88CA6C0], (tv 10 c 7).coarse.toNat < 2 ^ 28) ∧
      (tv 10 0 7).frac.toNat < 4096 := by decide

theorem witness_TvAddResult :
    ((tv 0 124999999 4095).coarse.toNat < 125000000 ∧ (tv 0 124999999 4095).frac.toNat < 4096) ∧
      ¬ (tv 0 125000000 0).coarse.toNat < 125000000 := by decide

theorem witness_TvSubResult :
    ((tv 0 0 0).coarse.toNat < 125000000 ∧ (tv 0 0 4095).frac.toNat < 4096) ∧
      ¬ (tv 0 0 4096).frac.toNat < 4096 := by decide

theorem witness_TvT2pResult :
    ((tv 9223372 4606846 3998).coarse.toNat < 125000000 ∧ (tv 9223372 4606846 3998).frac.toNat < 4096) ∧
      ¬ (tv 0 125000000 0).coarse.toNat < 125000000 := by decide

/-- A sample of each kind, with the offset (0, C-1, 4095) of S1 of spec/95_test_vectors.md. -/
theorem witness_RoundTripLaw :
    ((sTv (timeNormalize (tv 10 0xFFFFFFF 7)).val (tv 0 124999999 4095)).tvu.a =
        (timeNormalize (tv 10 0xFFFFFFF 7)).val ∧
      (timeNormalize (tv 10 0xFFFFFFF 7)).nr = false) ∧
    (timeNormalize (tv 10 0x8000000 7)).nr = true ∧ (tv 10 0xFFFFFFF 7).coarse.toNat < 2 ^ 28 ∧
    (tv 0 124999999 4095).coarse.toNat < 125000000 ∧ (tv 0 124999999 4095).frac.toNat < 4096 := by decide

theorem witness_PicoRoundTrips : (tv 0 124999999 4095).coarse.toNat < 125000000 ∧
    (tv 0 124999999 4095).frac.toNat < 4096 := by decide

/-- The smallest capacity, and values next to it. -/
theorem witness_RbNewAcceptsPowersOfTwo :
    (∃ n, 1 ≤ n ∧ n ≤ Config.rbCapMaxLog2 ∧ (2#32).toNat = 2 ^ n) ∧
      (¬ ∃ n, 1 ≤ n ∧ n ≤ Config.rbCapMaxLog2 ∧ (1#32).toNat = 2 ^ n) ∧
      ¬ ∃ n, 1 ≤ n ∧ n ≤ Config.rbCapMaxLog2 ∧ (3#32).toNat = 2 ^ n := by
  have one : ringCapOk 1#32 = false := rfl
  have three : ringCapOk 3#32 = false := rfl
  refine ⟨⟨1, le_rfl, one_le_rbCapMaxLog2, rfl⟩, fun h => ?_, fun h => ?_⟩
  · simp [ringCapOk_iff.mpr h] at one
  · simp [ringCapOk_iff.mpr h] at three

/-- A push that reaches the capacity, and one that does not. -/
theorem witness_RbPushResult : (sFull.ring.cap = some 8#64 ∧ (8#64).toNat ≤ (sFull.ring.head + 1#64 - sFull.ring.tail).toNat) ∧
    (sRing8.ring.cap = some 8#64 ∧ (sRing8.ring.head + 1#64 - sRing8.ring.tail).toNat < (8#64).toNat) := by decide

theorem witness_RbPopResult : (sRing.ring.cap = some 2#64 ∧ sRing.ring.tail ≠ sRing.ring.head ∧
      Memory.read sRing.ring.slots (sRing.ring.tail.toNat % (2#64).toNat) = some (smp 5)) ∧
    ({ tRing with head := 4#64 } : Ring).tail = ({ tRing with head := 4#64 } : Ring).head := by decide

theorem witness_RingStops : State.reset.ring.cap = none ∧ sRing.ring.cap = some 2#64 ∧
    sRing.ring.tail ≠ sRing.ring.head ∧
    Memory.read ({ tRing with slots := [] } : Ring).slots (sRing.ring.tail.toNat % (2#64).toNat) = none := by decide

/-- The ring of the tests meets the ring's invariant in every state that is OPEN. -/
theorem ringInv_tRing {s : State} (hr : s.ring = tRing) (hd : s.life.dev = .opened) : RingInv s := by
  refine ⟨?_, ?_, ?_, ?_, ?_, ?_, ?_⟩ <;> rw [hr]
  · decide
  · decide
  · rw [hd]; decide
  · intro h; cases h
  · intro c hc
    cases hc
    have h : (2#64).toNat ≤ 2 ^ Config.rbCapMaxLog2 := by
      rw [Nat.pow_add]
      exact Nat.le_mul_of_pos_right _ (Nat.two_pow_pos _)
    exact ⟨by decide, by decide, h⟩
  · intro c hc; cases hc; decide
  · intro c hc i hi
    cases hc
    have hi' : i < 1 := hi
    obtain rfl : i = 0 := by omega
    decide

theorem witness_PushKeepsRingBound : RingInv sRing ∧ sRing.ring.cap = some 2#64 := ⟨ringInv_tRing rfl rfl, rfl⟩

/-- A ring with samples, and an empty one. -/
theorem witness_RingIsBoundedFifo : (RingInv sRing ∧ sRing.ring.cap = some 2#64 ∧
      sRing.ring.contents 2#64 = some (smp 5) :: []) ∧
    ({ tRing with head := 4#64 } : Ring).contents 2#64 = [] := ⟨⟨ringInv_tRing rfl rfl, rfl, by decide⟩, by decide⟩

theorem witness_DrainStarts :
    (sRing.life.dev = .opened ∧ sRing.capt.mode = .poll ∧ sRing.capt.dr = .idle) ∧
    ¬ (State.reset.life.dev = .opened) ∧
    (let s := { sIrq [] with
      capt := { (sIrq []).capt with dr := .idle }, card := { State.reset.card with irqPend := true } }
     s.card.irqPend = true ∧ s.life.dev = .opened ∧ s.capt.mode = .irq ∧ s.capt.dr = .idle) := by decide

/-- An empty card FIFO, and one with a tuple. -/
theorem witness_DrainStepReadsAndPushes :
    (let s := { sRing with capt := { sRing.capt with dr := .active } }
     s.capt.dr = .active ∧ s.card.fifo = []) ∧
    (let s := { sRing with
      capt := { sRing.capt with dr := .active }, card := { State.reset.card with fifo := [tup] } }
     s.capt.dr = .active ∧ s.card.fifo = tup :: [] ∧ s.ring.cap = some 2#64) := by decide

theorem witness_DrainFinishAcknowledges :
    ((sIrq []).capt.dr = .finish ∧ (sIrq []).capt.drCtx = .irq ∧ (sIrq []).card.fifo = []) ∧
    (let s := { sIrq [] with card := { (sIrq []).card with fifo := [tup] } }
     s.capt.dr = .finish ∧ s.capt.drCtx = .irq ∧ s.card.fifo ≠ []) ∧
    (let s := { sRing with capt := { sRing.capt with dr := .finish } }
     s.capt.dr = .finish ∧ s.capt.drCtx = .poll) := by decide

theorem witness_NoDrainStartsOutsideOpen : after (step { sRing with sched := [.envTick] })
    (fun t => sRing.capt.dr = .idle && t.capt.dr != .idle) = true := by decide

/-- A sample for each of the three branches: channels 3 and 4, and the band of spec/40_timevalue.md R115. -/
theorem witness_CapDeliverEmitsRecord :
    (sRing.life.dev = .opened ∧ sRing.ring.head ≠ sRing.ring.tail ∧ sRing.ring.cap = some 2#64 ∧
      Memory.read sRing.ring.slots (sRing.ring.tail.toNat % (2#64).toNat) = some (smp 5)) ∧
    ((timeNormalize (smp 5)).nr = false ∧ (3#8).toNat = Chan.ch3.toNat ∧ 4 ≤ (4#8).toNat ∧
      (timeNormalize { smp 5 with coarse := 0x8000000#32 }).nr = true) ∧
    (smp 5).coarse.toNat < 2 ^ 28 ∧ (smp 5).frac.toNat < 4096 := by decide

theorem witness_SequenceGap :
    sRing.life.dev = .opened ∧ sRing.ring.head ≠ sRing.ring.tail ∧ sRing.ring.cap = some 2#64 ∧
      Memory.read sRing.ring.slots (sRing.ring.tail.toNat % (2#64).toNat) = some (smp 5) ∧
      (smp 5).coarse.toNat < 2 ^ 28 ∧ (smp 5).frac.toNat < 4096 := by decide

theorem witness_StreamAppendOnly : ({ sRing with sched := [.deliverer] } : State).sched.head? ≠ some .reset ∧
    after (step { sRing with sched := [.deliverer] }) (fun t => t.capt.out.length = 1) = true := by decide

theorem witness_StreamNormalizedKept : StreamNormalized { sRing with sched := [.deliverer] } ∧
    NormalizedUnlessFault { sRing with sched := [.deliverer] } ∧
    after (step { sRing with sched := [.deliverer] }) (fun t => !t.rangeFault) = true ∧
    after (step { sRing with rangeFault := true, sched := [.deliverer] }) (fun t => t.rangeFault) = true :=
  ⟨fun r h => absurd h (by decide +revert), ⟨fun _ => by decide, fun _ r h => absurd h (by decide +revert)⟩,
    by decide, by decide⟩

/-- A delivery in the band (spec/95_test_vectors.md section 2.3): emitted flagged NR, the fault taken. -/
theorem test_capDeliver_band : after
    (exec .capDeliver
      { sRing with ring := { tRing with slots := [(0, ⟨5#64, 0x8000000#32, 0#16, 0#8, 2#16⟩)] } })
    (fun t => t.capt.out = [⟨4#64, 259217728#32, 0#16, 0#8, 2#16, 0#16, 1#8⟩] && t.rangeFault) = true := by decide

theorem witness_CardInterruptLatch :
    ((sIrq [.envFifo tup]).sched = .envFifo tup :: [] ∧ (sIrq [.envFifo tup]).card.fifo = [] ∧
      (sIrq [.envFifo tup]).card.irqEn = true) ∧
    (sSched [.envFifo tup]).card.irqEn = false ∧
    (let s := { sIrq [] with
      capt := { (sIrq []).capt with dr := .idle }, card := { State.reset.card with irqPend := true } }
     s.card.irqPend = true ∧ s.life.dev = .opened ∧ s.capt.mode = .irq ∧ s.capt.dr = .idle) := by decide

/-- The repeat count 1 is legal, whatever CAL_N_MAX_LOG2 is. -/
theorem calN_one : ∃ n, n ≤ Config.calNMaxLog2 ∧ (sCal 1#32).cfg.calN.toNat = 2 ^ n := ⟨0, Nat.zero_le _, rfl⟩

/-- The smallest repeat count, on the last channel. -/
theorem witness_CalStartBeginsRun :
    (∃ n, n ≤ Config.calNMaxLog2 ∧ (sCal 1#32).cfg.calN.toNat = 2 ^ n) ∧
    (let s := sCal 1#32
     s.life.fatal = false ∧ s.life.dev = .opened ∧ s.cal.fsm = .idle ∧ (3#4).toNat = Chan.ch3.toNat ∧
      s.cfg.scaleDen ≠ 0#32 ∧ s.cfg.binFp ≠ 0#32 ∧ s.cfg.waitMax ≠ 0#32 ∧
      s.card.selftestOk = true ∧ s.life.lock = .free) := ⟨calN_one, by decide⟩

/-- A state for each clause: CLOSED, a run in progress, a bad channel, a failed self-test, and the lock held. -/
theorem witness_CalStartErrors :
    State.reset.life.dev ≠ .opened ∧
    ((sSearch 0#16 [] []).life.fatal = false ∧ (sSearch 0#16 [] []).life.dev = .opened ∧
      (sSearch 0#16 [] []).cal.fsm = .binarySearching) ∧
    (sRing.life.fatal = false ∧ sRing.life.dev = .opened ∧ sRing.cal.fsm = .idle ∧ 4 ≤ (4#4).toNat) ∧
    (∃ n, n ≤ Config.calNMaxLog2 ∧ (sCal 1#32).cfg.calN.toNat = 2 ^ n) ∧
    (let s := { sCal 1#32 with card := State.reset.card }
     s.cal.fsm = .idle ∧ ¬ 4 ≤ (3#4).toNat ∧ s.cfg.scaleDen ≠ 0#32 ∧
      s.cfg.binFp ≠ 0#32 ∧ s.cfg.waitMax ≠ 0#32 ∧ s.card.selftestOk = false) ∧
    (let s := { sCal 1#32 with life := { sRing.life with lock := .comp } }
     s.card.selftestOk = true ∧ s.life.lock ≠ .free) :=
  ⟨by decide, by decide, by decide, calN_one, by decide, by decide⟩

theorem witness_CalShotAccumulates :
    let s := sSearch 0#16 [0#32, 1#32, 6110#32] []
    s.cal.fsm = .binarySearching ∧ s.cal.phase = .search ∧ s.cal.shotCount.toNat < s.cal.nL.toNat ∧
      s.cal.denL ≠ 0#32 ∧ s.card.tdcDraws = [0#32] ++ 1#32 :: 6110#32 :: [] ∧
      (∀ w ∈ [0#32], notReady w) ∧ (1#32).getLsbD 1 = false ∧ (1#32).getLsbD 0 = true ∧
      [0#32].length < s.cal.waitL.toNat :=
  ⟨rfl, rfl, by decide, by decide, rfl, by simp [notReady], by decide, by decide, by decide⟩

/-- ERR at the last poll allowed, and no answer in all polls. -/
theorem witness_CalShotAborts :
    (let s := sSearch 0#16 [0#32, 3#32] []
     s.cal.fsm = .binarySearching ∧ s.cal.phase = .search ∧ s.cal.shotCount.toNat < s.cal.nL.toNat ∧
      (∀ w ∈ [0#32], notReady w) ∧ s.card.tdcDraws = [0#32] ++ 3#32 :: [] ∧ (3#32).getLsbD 1 = true ∧
      [0#32].length < s.cal.waitL.toNat) ∧
    (let s := sSearch 0#16 [0#32, 0#32] []
     (∀ w ∈ [0#32, 0#32], notReady w) ∧ s.card.tdcDraws = [0#32, 0#32] ++ [] ∧
      [0#32, 0#32].length = s.cal.waitL.toNat) :=
  ⟨⟨rfl, rfl, by decide, by simp [notReady], rfl, by decide, by decide⟩, by simp [notReady], rfl, rfl⟩

theorem witness_CalPointCompletesBias :
    let s := { sRing with cal := { searching 2#16 with fsm := .measuringBias, phase := .bias } }
    s.cal.fsm = .measuringBias ∧ s.cal.phase = .bias ∧ s.cal.shotCount.toNat = s.cal.nL.toNat ∧
      s.cal.nL ≠ 0#32 := by decide

/-- Bounds 2 apart, where the search ends, and bounds 1023 apart, where it goes on. -/
theorem witness_CalPointMovesBound :
    (let s := sSearch 1#16 [] []
     s.cal.fsm = .binarySearching ∧ s.cal.phase = .search ∧ s.cal.shotCount.toNat = s.cal.nL.toNat ∧
      s.cal.nL ≠ 0#32) ∧
    (let c := { searching 2#16 with low := 265#16, high := 267#16, curTap := 266#16 }
     c.high.toNat ≤ c.curTap.toNat + 1 ∧ c.low.toNat + 1 < (searching 2#16).high.toNat) := by decide

theorem witness_CalFitCommits : (sFit []).cal.fsm = .binarySearching ∧ (sFit []).cal.phase = .fit := by decide

theorem lifeInv_sIrq (l : List Event) : LifeInv (sIrq l) := by
  constructor <;> simp [sIrq, sRing, State.reset, State.resetWith]

/-- The invariant holds of a run in BinarySearching, whatever the schedule and the TDC's answers. -/
theorem inv_sSearch (k : BitVec 16) (hk : k.toNat ≤ 1) (d : List Word) (l : List Event) : Inv (sSearch k d l) := by
  refine ⟨ringInv_tRing rfl rfl, ?_, ?_⟩
  · constructor <;> simp [sSearch, sIrq, sRing, State.reset, State.resetWith]
  · refine ⟨?_, ?_, ?_, ?_, ?_, ?_, ?_, ?_, ?_, ?_, ?_⟩ <;>
      (try (simp [sSearch, sRing, searchingN, Calibrator.running]; done))
    · intro _; exact ⟨(by decide : 2 ^ (1#32).toNat.log2 = (1#32).toNat), (Nat.one_le_two_pow : (1#32).toNat ≤ 2 ^ Config.calNMaxLog2)⟩
    · intro _; exact hk
    · intro _
      exact (by decide : (1023#16).toNat ≤ Config.tapMax ∧ (0#16).toNat + 1 < (1023#16).toNat ∧
        511#16 = midTap 0#16 1023#16 ∧ (0#32).toNat < 10 ∧
        (1023#16).toNat - (0#16).toNat ≤ 2 ^ (10 - (0#32).toNat))
    · intro ch; cases ch <;> exact (by decide : (0#16).toNat + 1 ≤ Config.tapMax)

/-- The invariant holds of an OPEN device with the ring of the tests, no run, and the lock not held by one. -/
theorem inv_idleRing {s : State} (hr : s.ring = tRing) (hl : LifeInv s) (hd : s.life.dev = .opened)
    (hc : s.cal = State.reset.cal) (hk : s.life.lock ≠ .cal) : Inv s := by
  refine ⟨ringInv_tRing hr hd, hl, ?_⟩
  refine ⟨?_, ?_, ?_, ?_, ?_, ?_, ?_, ?_, ?_, ?_, ?_⟩ <;> rw [hc] <;>
    (try (simp [State.reset, State.resetWith, Calibrator.running, hk]; done))
  intro ch; cases ch <;> exact (by decide : (0#16).toNat + 1 ≤ Config.tapMax)

/-- The invariant holds of an OPEN device with no run and the lock free. -/
theorem inv_sIrq (l : List Event) : Inv (sIrq l) := inv_idleRing rfl (lifeInv_sIrq l) rfl rfl nofun

theorem witness_SearchShrinks : Inv (sSearch 1#16 [] []) ∧ (sSearch 1#16 [] []).cal.phase = .search ∧
    (sSearch 1#16 [] []).cal.shotCount.toNat = (sSearch 1#16 [] []).cal.nL.toNat :=
  ⟨inv_sSearch _ (by decide) _ _, by decide, by decide⟩

/-- CLOSED with a valid result, the host about to open with a capacity of 2. -/
def sReopen : State :=
  { State.reset with
    cfg := { State.reset.cfg with rbCap := 2#32 }
    cal := { State.reset.cal with res := .all ⟨true, 1#16, 0#32, 0#64⟩ }
    sched := [.hostWrite 0x004 0x10#32] }

theorem step_sReopen : step sReopen =
    complete opcDevOpen (writeCsr { sReopen with sched := [] } 0x10#32 .cmd).openDevice :=
  execDevOpen_polled (s := writeCsr { sReopen with sched := [] } 0x10#32 .cmd) (by decide)
    (ringCapOk_iff.mpr ⟨1, le_rfl, one_le_rbCapMaxLog2, rfl⟩) rfl

/-- Results change at the fit, at `dev.open` and at reset. -/
theorem witness_ResultsWritten :
    after (step (sFit [.calibrator])) (fun t => t.cal.res.get .ch1 != (sFit []).cal.res.get .ch1) = true ∧
    after (step sReopen) (fun t => t.cal.res.get .ch0 != sReopen.cal.res.get .ch0) = true ∧
    (let s := { State.reset with
      cal := { State.reset.cal with res := .all ⟨true, 1#16, 0#32, 0#64⟩ }, sched := [.reset] }
     after (step s) (fun t => t.cal.res.get .ch0 != s.cal.res.get .ch0) = true) := by
  refine ⟨by decide, ?_, by decide⟩
  rw [step_sReopen]
  decide

/-- `sCal` with the word `cal.start 3` as the next host write. -/
def sStart : State := { sCal 1#32 with sched := [.hostWrite 0x004 0x320#32] }

theorem step_sStart : step sStart = execCalStart 3#4 (writeCsr { sStart with sched := [] } 0x320#32 .cmd) := rfl

/-- `sIrq` with the lock held by the compensator. -/
def sComp (l : List Event) : State := { sIrq l with life := { (sIrq l).life with lock := .comp } }

theorem inv_sComp (l : List Event) : Inv (sComp l) :=
  inv_idleRing rfl (by constructor <;> simp [sComp, sIrq, sRing, State.reset, State.resetWith]) rfl rfl nofun

theorem inv_sStart : Inv sStart :=
  inv_idleRing rfl (by constructor <;> simp [sStart, sCal, sRing, State.reset, State.resetWith]) rfl rfl (by decide)

/-- The lock moves at `cal.start`, at an abort, at reset, and at an acquisition and a release by the compensator; and a
compensator write with the lock and without it. -/
theorem witness_LockMoves :
    (Inv (sSearch 0#16 [2#32] [.calibrator]) ∧
      after (step (sSearch 0#16 [2#32] [.calibrator])) (fun t => t.life.lock = .free) = true) ∧
    (Inv (sSearch 0#16 [] [.reset]) ∧
      after (step (sSearch 0#16 [] [.reset])) (fun t => t.life.lock = .free) = true) ∧
    (Inv (sIrq [.compAcquire]) ∧ after (step (sIrq [.compAcquire])) (fun t => t.life.lock = .comp) = true) ∧
    (sIrq [.compWrite .ch3 1023#32]).life.lock ≠ .comp ∧
    (Inv sStart ∧ sStart.life.lock = .free ∧ after (step sStart) (fun t => t.life.lock = .cal) = true) ∧
    (Inv (sComp [.compRelease]) ∧ after (step (sComp [.compRelease])) (fun t => t.life.lock = .free) = true) ∧
    ((sComp [.compWrite .ch3 0xFFFFFFFF#32]).life.lock = .comp ∧
      after (step (sComp [.compWrite .ch3 0xFFFFFFFF#32])) (fun t => t.card.dlyTap.get .ch3 = 1023#10) = true) := by
  refine ⟨⟨inv_sSearch _ (by decide) _ _, by decide⟩, ⟨inv_sSearch _ (by decide) _ _, by decide⟩,
    ⟨inv_sIrq _, by decide⟩, by decide, ⟨inv_sStart, by decide, ?_⟩, ⟨inv_sComp _, by decide⟩, by decide, by decide⟩
  have h : (writeCsr { sStart with sched := [] } 0x320#32 .cmd).cfg.calOk = true := test_calCfg_one
  rw [step_sStart, execCalStart]
  simp only [h]
  decide

theorem witness_DevOpenOpens :
    let s := { State.reset with cfg := { State.reset.cfg with rbCap := 2#32, capMode := true } }
    s.life.fatal = false ∧ s.life.dev = .closed ∧
      (∃ n, 1 ≤ n ∧ n ≤ Config.rbCapMaxLog2 ∧ s.cfg.rbCap.toNat = 2 ^ n) ∧ s.cfg.capMode = true ∧
      State.reset.cfg.capMode = false := ⟨rfl, rfl, ⟨1, le_rfl, one_le_rbCapMaxLog2, rfl⟩, rfl, rfl⟩

theorem witness_DevOpenErrors : sRing.life.dev ≠ .closed ∧ State.reset.life.fatal = false ∧
    State.reset.life.dev = .closed ∧ ¬ ∃ n, 1 ≤ n ∧ n ≤ Config.rbCapMaxLog2 ∧ State.reset.cfg.rbCap.toNat = 2 ^ n := by
  refine ⟨by decide, rfl, rfl, ?_⟩
  rintro ⟨n, h1, h2, h3⟩
  have : 0 < 2 ^ n := Nat.two_pow_pos n
  rw [← h3] at this
  exact absurd this (by decide)

theorem witness_DevCloseResult : State.reset.life.dev ≠ .opened ∧
    ((sSearch 0#16 [] []).life.dev = .opened ∧ (sSearch 0#16 [] []).cal.fsm = .binarySearching) ∧
    (sRing.life.dev = .opened ∧ sRing.cal.fsm = .idle) := by decide

theorem witness_TeardownSteps :
    ((sDown .stopCapture).life.dev = .closing ∧ (sDown .stopCapture).life.phase = .stopCapture ∧
      (sDown .stopCapture).capt.dr = .idle ∧ (sDown .stopCapture).capt.mode = .irq) ∧
    (sDown .stopComp).life.phase = .stopComp ∧
    ((sDown .release).life.phase = .release ∧ (sDown .release).life.lock ≠ .comp) ∧
    ¬ State.reset.life.dev = .closing := by decide

theorem witness_FatalUntilReset :
    let s := { sSched [.hostWrite 0x010 0xFFFFFFFF#32] with life := { State.reset.life with fatal := true } }
    s.life.fatal = true ∧ after (step s) (fun t => t.life.fatal) = true := by decide

theorem witness_ResetStateTable : (sSearch 1#16 [] [.reset]).sched = .reset :: [] ∧
    Csr.calN ∉ [.pollMs, .scaleNum, .scaleDen, .waitMax, .compPeriod] := by decide

theorem witness_InvKept : Inv (sSearch 0#16 [1#32, 6110#32] [.calibrator]) ∧
    after (step (sSearch 0#16 [1#32, 6110#32] [.calibrator])) (fun t => t.cal.shotCount = 1#16) = true :=
  ⟨inv_sSearch _ (by decide) _ _, by decide⟩

theorem witness_NoStepStops : Inv (sIrq [.deliverer]) := inv_sIrq _

theorem witness_NoTupleStranded : Inv (sIrq [.drainer]) ∧ NoStrandedTuple (sIrq [.drainer]) ∧
    after (step (sIrq [.drainer])) (fun t => t.capt.dr = .idle) = true :=
  ⟨inv_sIrq _, ⟨fun _ _ => rfl, fun _ _ h _ => absurd h (by decide)⟩, by decide⟩

theorem witness_ErrWrittenByCommandsOnly :
    (sIrq [.drainer]).sched.head? = some .drainer ∧ after (step (sIrq [.drainer])) (fun _ => true) = true := by
  decide

theorem witness_TimersUnread : after (exec .capDeliver sRing) (fun _ => true) = true := by decide

end Sys2Proof.Tests
end

section
/-! PROOFS. A step as the event at the head of the schedule, and the host CSR window: what a write of a register leaves
for every read (spec/10_state.md R23, spec/20_memory.md R61 to R64). -/

namespace Sys2Proof.Machine

/-! ## One step -/

/-- The outcome of what a step fetched: its instruction runs, or it is finished. -/
def Fetched.outcome : Fetched → Result
  | .run i t => exec i t
  | .done t => .next t

@[simp] theorem Fetched.outcome_run (i : Instr) (t : State) : (Fetched.run i t).outcome = exec i t := rfl

@[simp] theorem Fetched.outcome_done (t : State) : (Fetched.done t).outcome = .next t := rfl

theorem step_eq_outcome (s : State) : step s = (fetch s).outcome := by
  unfold step
  cases fetch s <;> rfl

/-- With an empty schedule no agent steps (log 1). -/
theorem step_of_sched_nil {s : State} (h : s.sched = []) : step s = .next s := by
  simp [step_eq_outcome, fetch, h]

/-- A step performs the head of the schedule, taken off it (log 1). -/
theorem step_of_sched_cons {s : State} {e : Event} {rest : List Event} (h : s.sched = e :: rest) :
    step s = (eventStep e { s with sched := rest }).outcome := by
  simp [step_eq_outcome, fetch, h]

/-- A step that completes has an empty schedule and changes nothing, or performs the schedule's head. -/
theorem step_cases {s t : State} (h : step s = .next t) :
    t = s ∨ ∃ e rest, s.sched = e :: rest ∧ (eventStep e { s with sched := rest }).outcome = .next t := by
  cases hs : s.sched with
  | nil =>
    rw [step_of_sched_nil hs] at h
    cases h
    exact .inl rfl
  | cons e rest =>
    rw [step_of_sched_cons hs] at h
    exact .inr ⟨e, rest, rfl, h⟩

/-! ## Host writes -/

/-- A host write of a register other than `CMD` (spec/10_state.md R23). -/
theorem hostWrite_register {r : Csr} (hr : r ≠ .cmd) (w : Word) (s : State) :
    hostWrite r.offset w s = .done (writeCsr s w r) := by
  simp [hostWrite, hr]

/-- A host write to `CMD` of a word that spells a command (spec/10_state.md R26). -/
theorem hostWrite_command {w : Word} {i : Instr} (hd : decode w = .ok i) (s : State) :
    hostWrite 0x004 w s = .run i { s with cmd := w } := by
  have hc : csrAt 0x004 = some .cmd := csrAt_offset .cmd
  simp [hostWrite, hc, hd, writeCsr]

/-- A host write runs an instruction only at the offset of `CMD`, and then the one its word spells; every other host
write is finished at once, as a bus error, a write of a register, or an ILLEGAL command word. -/
theorem hostWrite_cases (off : Nat) (w : Word) (s : State) :
    (∃ i, off = 0x004 ∧ decode w = .ok i ∧ hostWrite off w s = .run i { s with cmd := w }) ∨
      hostWrite off w s = .done s.noteBusErr ∨
      (∃ r, r ≠ .cmd ∧ hostWrite off w s = .done (writeCsr s w r)) ∨
      hostWrite off w s = .done (({ s with cmd := w } : State).illegal w) := by
  cases hc : csrAt off with
  | none => exact .inr (.inl (by simp [hostWrite, hc]))
  | some r =>
    obtain rfl := csrAt_eq_some.mp hc
    by_cases hr : r = .cmd
    · subst hr
      cases hd : decode w with
      | ok i => exact .inl ⟨i, rfl, rfl, hostWrite_command hd s⟩
      | error e => exact .inr (.inr (.inr (by simp [hostWrite, hd, writeCsr])))
    · exact .inr (.inr (.inl ⟨r, hr, hostWrite_register hr w s⟩))

/-- The step of a host write of a register other than `CMD`. -/
theorem step_hostWrite_register {s : State} {rest : List Event} {w : Word} {r : Csr} (hr : r ≠ .cmd)
    (h : s.sched = .hostWrite r.offset w :: rest) :
    step s = .next (writeCsr { s with sched := rest } w r) := by
  rw [step_of_sched_cons h, eventStep, hostWrite_register hr, Fetched.outcome_done]

/-- Settles O6: the store to `CMD` and the command it spells are one step. -/
theorem stepRunsDecodedCommand : Obligations.StepRunsDecodedCommand := by
  intro s rest w i h hd
  rw [step_of_sched_cons h, eventStep, hostWrite_command hd, Fetched.outcome_run]

/-! ## Words and masks -/

/-- Appended words as a number: the upper word above the width of the lower one. -/
theorem toNat_append_eq {m n : Nat} (x : BitVec m) (y : BitVec n) :
    (x ++ y).toNat = x.toNat * 2 ^ n + y.toNat := by
  rw [BitVec.toNat_append, ← Nat.shiftLeft_add_eq_or_of_lt y.isLt, Nat.shiftLeft_eq]

/-- A mask of the low n bits leaves the remainder by 2^n. -/
theorem and_lowMask_toNat {w m : Word} {n : Nat} (hm : m.toNat = 2 ^ n - 1) :
    (w &&& m).toNat = w.toNat % 2 ^ n := by
  rw [BitVec.toNat_and, hm, Nat.and_two_pow_sub_one_eq_mod]

/-- The mask of a register without reserved bits. -/
theorem and_fullMask (w : Word) : w &&& 0xFFFFFFFF#32 = w := by
  rw [show 0xFFFFFFFF#32 = BitVec.allOnes 32 from rfl, BitVec.and_allOnes]

/-- `CAP_MODE` has bit 0 only (spec/10_state.md R33). -/
theorem capModeWord_eq_mask (w : Word) : (BitVec.ofBool (w.getLsbD 0)).setWidth 32 = w &&& 0x00000001#32 := by
  apply BitVec.eq_of_toNat_eq
  rw [and_lowMask_toNat (n := 1) rfl, BitVec.toNat_setWidth, BitVec.toNat_ofBool, BitVec.getLsbD,
    Nat.testBit_zero]
  rcases Nat.mod_two_eq_zero_or_one w.toNat with h | h <;> simp [h]

/-- `*_FRAC` has bits [15:0] (spec/10_state.md R31). -/
theorem fracWord_eq_mask (w : Word) : (w.extractLsb' 0 16).setWidth 32 = w &&& 0x0000FFFF#32 := by
  apply BitVec.eq_of_toNat_eq
  rw [and_lowMask_toNat (n := 16) rfl, BitVec.toNat_setWidth, BitVec.extractLsb'_toNat, Nat.shiftRight_zero]
  omega

/-- `*_META` has bits [23:0] (spec/10_state.md R31). -/
theorem metaWord_eq_mask (w : Word) :
    0#8 ++ w.extractLsb' 16 8 ++ w.extractLsb' 0 16 = w &&& 0x00FFFFFF#32 := by
  apply BitVec.eq_of_toNat_eq
  rw [and_lowMask_toNat (n := 24) rfl, toNat_append_eq, toNat_append_eq, BitVec.extractLsb'_toNat,
    BitVec.extractLsb'_toNat, Nat.shiftRight_zero, Nat.shiftRight_eq_div_pow, BitVec.toNat_ofNat]
  omega

/-! ## Reading a register after a write -/

/-- A word of a 64-bit register after a write of one of its words (spec/20_memory.md R64). -/
theorem halfOf_withHalf (v : BitVec 64) (w : Word) (h h' : Half) :
    halfOf (withHalf v w h) h' = if h' = h then w else halfOf v h' := by
  cases h <;> cases h' <;>
    simp only [halfOf, withHalf, withLo, withHi, loWord, hiWord, pairWord, if_true, reduceCtorEq, if_false]
  · exact BitVec.extractLsb'_append_eq_right
  · exact BitVec.extractLsb'_append_eq_left
  · exact BitVec.extractLsb'_append_eq_right
  · exact BitVec.extractLsb'_append_eq_left

theorem halfOf_withHalf_same (v : BitVec 64) (w : Word) (h : Half) : halfOf (withHalf v w h) h = w := by
  rw [halfOf_withHalf, if_pos rfl]

/-- A word of a 64-bit register other than the written one reads as before. -/
theorem halfOf_withHalf_other (v : BitVec 64) (w : Word) {h h' : Half} (hh : h' ≠ h) :
    halfOf (withHalf v w h) h' = halfOf v h' := by
  rw [halfOf_withHalf, if_neg hh]

/-- The written word of an operand set reads back without its reserved bits (spec/10_state.md R23, R31). -/
theorem timeWord_withTimeWord_same (x : TimeValue) (w : Word) (f : TvWord) :
    timeWord (withTimeWord x w f) f = w &&& f.mask := by
  cases f with
  | utc h => exact (halfOf_withHalf_same x.utc w h).trans (and_fullMask w).symm
  | coarse => exact (and_fullMask w).symm
  | frac => exact fracWord_eq_mask w
  | metaWord => exact metaWord_eq_mask w

/-- Every other word of the operand set reads as before. -/
theorem timeWord_withTimeWord_other (x : TimeValue) (w : Word) {f f' : TvWord} (hf : f' ≠ f) :
    timeWord (withTimeWord x w f) f' = timeWord x f' := by
  cases f with
  | utc h =>
    cases f' with
    | utc h' => exact halfOf_withHalf_other x.utc w (ne_of_apply_ne TvWord.utc hf)
    | _ => rfl
  | coarse => cases f' with
    | coarse => exact absurd rfl hf
    | _ => rfl
  | frac => cases f' with
    | frac => exact absurd rfl hf
    | _ => rfl
  | metaWord => cases f' with
    | metaWord => exact absurd rfl hf
    | _ => rfl

/-- A word of a channel's 64-bit register after a write of a word of such a register. -/
theorem halfOf_get_set (q : Quad (BitVec 64)) (w : Word) (ch ch' : Chan) (h h' : Half) :
    halfOf ((q.set ch (withHalf (q.get ch) w h)).get ch') h' =
      if ch' = ch ∧ h' = h then w else halfOf (q.get ch') h' := by
  rw [Quad.get_set]
  by_cases hc : ch' = ch
  · subst hc
    simp [halfOf_withHalf]
  · simp [hc]

/-- A write of a `RW` register changes the operand and configuration registers only. -/
theorem writeCsr_frame {r : Csr} {m : Word} (hk : r.kind = .rw m) (s : State) (w : Word) :
    writeCsr s w r = { s with tvu := (writeCsr s w r).tvu, cfg := (writeCsr s w r).cfg } := by
  cases r with
  | cmd => cases hk
  | statusClr => cases hk
  | _ => rfl

/-- A write of a `RO` register is ignored. -/
theorem writeCsr_readOnly {r : Csr} (hk : r.kind = .ro) (s : State) (w : Word) : writeCsr s w r = s := by
  cases r with
  | id | status | err | inputs | opR _ | psOut _ | rbFill | rbHead _ | rbTail _ | dropped _ | lost _ | lastSeq
  | delivered _ | calState | calLow | calHigh | calIter | calBias _ | calMin _ | calMax _ | calShot | resTap _
  | resOffset _ | resDelay _ _ => rfl
  | _ => cases hk

/-- A written `RW` register reads back without its reserved bits. -/
theorem readCsr_writeCsr_same {r : Csr} {m : Word} (hk : r.kind = .rw m) (s : State) (w : Word) :
    readCsr (writeCsr s w r) r = w &&& m := by
  cases r with
  | opA f => cases hk; exact timeWord_withTimeWord_same s.tvu.a w f
  | opB f => cases hk; exact timeWord_withTimeWord_same s.tvu.b w f
  | capMode => cases hk; exact capModeWord_eq_mask w
  | psIn h => cases hk; exact (halfOf_withHalf_same s.tvu.psIn w h).trans (and_fullMask w).symm
  | zeroOff ch h => cases hk; simp [readCsr, writeCsr, halfOf_get_set, and_fullMask]
  | userOff ch h => cases hk; simp [readCsr, writeCsr, halfOf_get_set, and_fullMask]
  | polyC0 h => cases hk; exact (halfOf_withHalf_same s.cfg.polyC0 w h).trans (and_fullMask w).symm
  | polyC1 h => cases hk; exact (halfOf_withHalf_same s.cfg.polyC1 w h).trans (and_fullMask w).symm
  | polyC2 h => cases hk; exact (halfOf_withHalf_same s.cfg.polyC2 w h).trans (and_fullMask w).symm
  | rbCap | pollMs | calN | scaleNum | scaleDen | binFp | waitMax | compPeriod =>
    cases hk; exact (and_fullMask w).symm
  | _ => cases hk

/-- Every register but the written one reads as before. -/
theorem readCsr_writeCsr_other {r r' : Csr} {m : Word} (hk : r.kind = .rw m) (hr : r' ≠ r) (s : State) (w : Word) :
    readCsr (writeCsr s w r) r' = readCsr s r' := by
  cases r with
  | opA f => cases r' with
    | opA f' => exact timeWord_withTimeWord_other s.tvu.a w (ne_of_apply_ne Csr.opA hr)
    | _ => rfl
  | opB f => cases r' with
    | opB f' => exact timeWord_withTimeWord_other s.tvu.b w (ne_of_apply_ne Csr.opB hr)
    | _ => rfl
  | psIn h => cases r' with
    | psIn h' => exact halfOf_withHalf_other s.tvu.psIn w (ne_of_apply_ne Csr.psIn hr)
    | _ => rfl
  | zeroOff ch h => cases r' with
    | zeroOff ch' h' =>
      have hne : ¬ (ch' = ch ∧ h' = h) := by rintro ⟨rfl, rfl⟩; exact hr rfl
      exact (halfOf_get_set s.cfg.zeroOff w ch ch' h h').trans (if_neg hne)
    | _ => rfl
  | userOff ch h => cases r' with
    | userOff ch' h' =>
      have hne : ¬ (ch' = ch ∧ h' = h) := by rintro ⟨rfl, rfl⟩; exact hr rfl
      exact (halfOf_get_set s.cfg.userOff w ch ch' h h').trans (if_neg hne)
    | _ => rfl
  | polyC0 h => cases r' with
    | polyC0 h' => exact halfOf_withHalf_other s.cfg.polyC0 w (ne_of_apply_ne Csr.polyC0 hr)
    | _ => rfl
  | polyC1 h => cases r' with
    | polyC1 h' => exact halfOf_withHalf_other s.cfg.polyC1 w (ne_of_apply_ne Csr.polyC1 hr)
    | _ => rfl
  | polyC2 h => cases r' with
    | polyC2 h' => exact halfOf_withHalf_other s.cfg.polyC2 w (ne_of_apply_ne Csr.polyC2 hr)
    | _ => rfl
  | rbCap | capMode | pollMs | calN | scaleNum | scaleDen | binFp | waitMax | compPeriod =>
    cases r' <;> try rfl
    exact absurd rfl hr
  | _ => cases hk

/-- What is still scheduled shows in no register (log 1). -/
theorem readCsr_sched (s : State) (l : List Event) (r : Csr) : readCsr { s with sched := l } r = readCsr s r := by
  cases r <;> rfl

/-- Settles O9: the written register, by `readCsr_writeCsr_same`; the others, by `readCsr_writeCsr_other`; the rest of
the state, by `writeCsr_frame`. -/
theorem hostWriteReadsBack : Obligations.HostWriteReadsBack := by
  intro s rest w r hs
  refine ⟨fun m hk => ?_, fun hk => ?_⟩
  · have hr : r ≠ .cmd := by rintro rfl; cases hk
    refine ⟨_, step_hostWrite_register hr hs, writeCsr_frame hk _ w, readCsr_writeCsr_same hk _ w, ?_⟩
    intro r' hr'
    rw [readCsr_writeCsr_other hk hr', readCsr_sched]
  · have hr : r ≠ .cmd := by rintro rfl; cases hk
    rw [step_hostWrite_register hr hs, writeCsr_readOnly hk]

end Sys2Proof.Machine
end

section
/-! PROOFS. The registers that pack several fields, and `STATUS` bit by bit (spec/10_state.md R27 to R43). -/

namespace Sys2Proof.Machine

/-! ## `STATUS` -/

/-- `STATUS` as the number its fields spell (spec/10_state.md R27). -/
theorem statusWord_toNat (s : State) :
    (statusWord s).toNat =
      s.life.dev.bits.toNat + 4 * (BitVec.ofBool s.capt.ready).toNat + 8 * (BitVec.ofBool s.life.fatal).toNat
        + 16 * (BitVec.ofBool s.cal.running).toNat + 32 * s.life.lock.bits.toNat
        + 128 * (BitVec.ofBool s.capt.draining).toNat + 256 * (BitVec.ofBool s.sticky.ovf).toNat
        + 512 * (BitVec.ofBool s.sticky.normRange).toNat + 1024 * (BitVec.ofBool s.sticky.chRange).toNat
        + 2048 * (BitVec.ofBool s.sticky.busErr).toNat + 4096 * (BitVec.ofBool s.sticky.rbOvf).toNat
        + 8192 * (BitVec.ofBool s.life.compRun).toNat + 16384 * (BitVec.ofBool (s.capt.mode == .irq)).toNat := by
  simp only [statusWord, toNat_append_eq, BitVec.toNat_ofNat]
  omega

/-- Bits [31:15] of `STATUS` are reserved (spec/10_state.md R27). -/
theorem statusWord_lt (s : State) : (statusWord s).toNat < 2 ^ 15 := by
  rw [statusWord_toNat]
  omega

/-- The sticky bits of `STATUS`, bits [12:8] there (spec/10_state.md R27). -/
def Sticky.bits (f : Sticky) : BitVec 5 :=
  BitVec.ofBool f.rbOvf ++ BitVec.ofBool f.busErr ++ BitVec.ofBool f.chRange ++ BitVec.ofBool f.normRange
    ++ BitVec.ofBool f.ovf

/-- The live bits of `STATUS` below the sticky ones, bits [7:0] there (spec/10_state.md R27). -/
def statusLow (s : State) : BitVec 8 :=
  BitVec.ofBool s.capt.draining ++ s.life.lock.bits ++ BitVec.ofBool s.cal.running
    ++ BitVec.ofBool s.life.fatal ++ BitVec.ofBool s.capt.ready ++ s.life.dev.bits

/-- The bits of `STATUS` above the sticky ones, bits [31:13] there (spec/10_state.md R27). -/
def statusHigh (s : State) : BitVec 19 :=
  0#17 ++ BitVec.ofBool (s.capt.mode == .irq) ++ BitVec.ofBool s.life.compRun

/-- The sticky bits stand between the live bits of `STATUS`. -/
theorem statusWord_eq_sticky (s : State) : statusWord s = statusHigh s ++ s.sticky.bits ++ statusLow s := by
  apply BitVec.eq_of_toNat_eq
  rw [statusWord_toNat]
  simp only [statusHigh, Sticky.bits, statusLow, toNat_append_eq, BitVec.toNat_ofNat]
  omega

theorem statusWord_getLsbD (s : State) (k : Nat) :
    (statusWord s).getLsbD k =
      if k < 8 then (statusLow s).getLsbD k
      else if k - 8 < 5 then s.sticky.bits.getLsbD (k - 8)
      else (statusHigh s).getLsbD (k - 8 - 5) := by
  rw [statusWord_eq_sticky, BitVec.getLsbD_append, BitVec.getLsbD_append]

/-- A flag appended below a word is its bit 0. -/
theorem getLsbD_append_flag {n : Nat} (x : BitVec n) (b : Bool) (k : Nat) :
    (x ++ BitVec.ofBool b).getLsbD k = if k = 0 then b else x.getLsbD (k - 1) := by
  rw [BitVec.getLsbD_append]
  cases k <;> simp

/-- A write of w to `STATUS_CLR` clears the sticky bits it names (spec/10_state.md R28). -/
theorem Sticky.bits_clear (f : Sticky) (w : Word) {k : Nat} (hk : k < 5) :
    (f.clear w).bits.getLsbD k = (f.bits.getLsbD k && !w.getLsbD (k + 8)) := by
  interval_cases k <;> simp only [Sticky.bits, Sticky.clear, getLsbD_append_flag] <;> simp

/-- `STATUS` after a write of w to `STATUS_CLR`, bit by bit (spec/10_state.md R28). -/
theorem statusWord_clear (s : State) (w : Word) (k : Nat) :
    (statusWord { s with sticky := s.sticky.clear w }).getLsbD k =
      if 8 ≤ k ∧ k ≤ 12 then (statusWord s).getLsbD k && !w.getLsbD k else (statusWord s).getLsbD k := by
  have hlow : statusLow { s with sticky := s.sticky.clear w } = statusLow s := rfl
  have hhigh : statusHigh { s with sticky := s.sticky.clear w } = statusHigh s := rfl
  rw [statusWord_getLsbD, statusWord_getLsbD, hlow, hhigh]
  rcases Nat.lt_or_ge k 8 with h8 | h8
  · have hk : ¬ (8 ≤ k ∧ k ≤ 12) := by omega
    simp only [h8, hk, if_true, if_false]
  rcases Nat.lt_or_ge k 13 with h13 | h13
  · have hk : 8 ≤ k ∧ k ≤ 12 := by omega
    have h5 : k - 8 < 5 := by omega
    simp only [h8.not_gt, hk, h5, and_self, if_true, if_false]
    rw [Sticky.bits_clear _ _ h5, Nat.sub_add_cancel h8]
  · have hk : ¬ (8 ≤ k ∧ k ≤ 12) := by omega
    have h5 : ¬ k - 8 < 5 := by omega
    simp only [h8.not_gt, hk, h5, if_false]

/-- Settles O11: only the sticky bits can differ, and `STATUS` shows them as `statusWord_clear` says. -/
theorem statusClrClearsStickyBits : Obligations.StatusClrClearsStickyBits := by
  intro s rest w hs
  exact ⟨_, step_hostWrite_register (r := .statusClr) (by decide) hs, rfl, statusWord_clear s w⟩

/-! ## The other packed registers -/

/-- A bit of a word from the word as a number. -/
theorem getLsbD_eq_of_div {n : Nat} {w : BitVec n} {k : Nat} {b : Bool}
    (h : w.toNat / 2 ^ k % 2 = (BitVec.ofBool b).toNat) :
    w.getLsbD k = b := by
  rw [BitVec.getLsbD, Nat.testBit_eq_decide_div_mod_eq, h]
  cases b <;> rfl

/-- The codes of spec/60_exceptions.md R236. -/
theorem ErrCode.bits_toNat (c : ErrCode) : c.bits.toNat = c.number := by cases c <;> rfl

theorem chanBits_toNat (ch : Chan) : (chanBits ch).toNat = ch.toNat := by cases ch <;> rfl

/-- `ERR` has its code in [7:0] and `OP` in [15:8] (spec/10_state.md R29). -/
theorem readCsr_err_toNat (s : State) :
    (readCsr s .err).toNat = s.errOp.toNat * 2 ^ 8 + s.errCode.bits.toNat := by
  simp only [readCsr, toNat_append_eq, BitVec.toNat_ofNat]
  omega

/-- `INPUTS` has `SELFTEST_OK` in [0] and `TEMP` in [31:16] (spec/10_state.md R30). -/
theorem readCsr_inputs_toNat (s : State) :
    (readCsr s .inputs).toNat = s.card.temp.toNat * 2 ^ 16 + (BitVec.ofBool s.card.selftestOk).toNat := by
  simp only [readCsr, toNat_append_eq, BitVec.toNat_ofNat]
  omega

/-- `LAST_SEQ` has the sequence number in [15:0] and `VALID` in [16] (spec/10_state.md R34). -/
theorem readCsr_lastSeq_toNat (s : State) :
    (readCsr s .lastSeq).toNat = (BitVec.ofBool s.capt.lastValid).toNat * 2 ^ 16 + s.capt.lastSeq.toNat := by
  simp only [readCsr, toNat_append_eq, BitVec.toNat_ofNat]
  omega

/-- `CAL_STATE` has `STATE` in [1:0], `CH` in [3:2] and `CAL_ERR` in [15:8] (spec/10_state.md R38). -/
theorem readCsr_calState_toNat (s : State) :
    (readCsr s .calState).toNat =
      s.cal.err.bits.toNat * 2 ^ 8 + (chanBits s.cal.stateCh).toNat * 4 + s.cal.fsm.bits.toNat := by
  simp only [readCsr, toNat_append_eq, BitVec.toNat_ofNat]
  omega

/-- `CAL_SHOT` has the shots in [15:0] and the tap in [31:16] (spec/10_state.md R39). -/
theorem readCsr_calShot_toNat (s : State) :
    (readCsr s .calShot).toNat = s.cal.curTap.toNat * 2 ^ 16 + s.cal.shotCount.toNat := by
  simp only [readCsr, toNat_append_eq]

/-- `RES_TAP` has the tap in [15:0] and `VALID` in [31] (spec/10_state.md R43). -/
theorem readCsr_resTap_toNat (s : State) (ch : Chan) :
    (readCsr s (.resTap ch)).toNat =
      (BitVec.ofBool (s.cal.res.get ch).valid).toNat * 2 ^ 31 + (s.cal.res.get ch).tap.toNat := by
  simp only [readCsr, toNat_append_eq, BitVec.toNat_ofNat]
  omega

/-- `RB_FILL` is the occupancy, and 0 while CLOSED (spec/10_state.md R34). -/
theorem readCsr_rbFill_toNat (s : State) :
    ((readCsr s .rbFill).toNat : Int) =
      if s.life.dev = .closed then 0 else ((s.ring.head.toNat : Int) - s.ring.tail.toNat) % 2 ^ 32 := by
  have hocc : ((s.ring.occupancy.setWidth 32).toNat : Int) =
      ((s.ring.head.toNat : Int) - s.ring.tail.toNat) % 2 ^ 32 := by
    have := s.ring.head.isLt
    have := s.ring.tail.isLt
    rw [Ring.occupancy, BitVec.toNat_setWidth, BitVec.toNat_sub]
    omega
  unfold readCsr ringFill
  cases s.life.dev with
  | closed => rfl
  | opened => exact hocc
  | closing => exact hocc

/-- The fields of `STATUS`, each from the sum `statusWord_toNat` (spec/10_state.md R27). -/
theorem statusWord_fields (s : State) :
    (statusWord s).toNat % 4 = s.life.dev.bits.toNat ∧ (statusWord s).toNat / 32 % 4 = s.life.lock.bits.toNat ∧
      (statusWord s).getLsbD 2 = s.capt.ready ∧ (statusWord s).getLsbD 3 = s.life.fatal ∧
      (statusWord s).getLsbD 4 = s.cal.running ∧ (statusWord s).getLsbD 7 = s.capt.draining ∧
      (statusWord s).getLsbD 8 = s.sticky.ovf ∧ (statusWord s).getLsbD 9 = s.sticky.normRange ∧
      (statusWord s).getLsbD 10 = s.sticky.chRange ∧ (statusWord s).getLsbD 11 = s.sticky.busErr ∧
      (statusWord s).getLsbD 12 = s.sticky.rbOvf ∧ (statusWord s).getLsbD 13 = s.life.compRun ∧
      (statusWord s).getLsbD 14 = (s.capt.mode == .irq) := by
  have h := statusWord_toNat s
  refine ⟨by omega, by omega, ?_, ?_, ?_, ?_, ?_, ?_, ?_, ?_, ?_, ?_, ?_⟩ <;> exact getLsbD_eq_of_div (by omega)

/-- Settles O12: each register is the sum of its fields at their places (`readCsr_err_toNat` and the lemmas after it,
`statusWord_toNat`), so a quotient and a remainder give each field back. -/
theorem packedRegistersShowTheirFields : Obligations.PackedRegistersShowTheirFields := by
  intro s
  refine ⟨?err, ?inputs, readCsr_rbFill_toNat s, ?lastSeq, ?calState, BitVec.toNat_setWidth_of_le (by omega),
    BitVec.toNat_setWidth_of_le (by omega), rfl, ?calShot, fun ch => ?resTap, ?status⟩
  case err =>
    have h := readCsr_err_toNat s
    exact ⟨by rw [← ErrCode.bits_toNat]; omega, by omega, by omega⟩
  case inputs =>
    have h := readCsr_inputs_toNat s
    exact ⟨getLsbD_eq_of_div (by omega), by omega, by omega⟩
  case lastSeq =>
    have h := readCsr_lastSeq_toNat s
    exact ⟨by omega, getLsbD_eq_of_div (by omega), by omega⟩
  case calState =>
    have h := readCsr_calState_toNat s
    have hfsm : (readCsr s .calState).toNat % 4 = s.cal.fsm.bits.toNat := by omega
    exact ⟨hfsm.trans (by cases s.cal.fsm <;> rfl), by rw [← chanBits_toNat]; omega, by omega,
      by rw [← ErrCode.bits_toNat]; omega, by omega⟩
  case calShot =>
    have h := readCsr_calShot_toNat s
    exact ⟨by omega, by omega⟩
  case resTap =>
    have h := readCsr_resTap_toNat s ch
    exact ⟨by omega, by omega, getLsbD_eq_of_div (by omega), rfl⟩
  case status =>
    obtain ⟨hdev, hlock, hready, hfatal, hrunning, hdraining, h8, h9, h10, h11, h12, h13, h14⟩ :=
      statusWord_fields s
    refine ⟨hdev.trans (by cases s.life.dev <;> rfl), hready, hfatal, ?_,
      hlock.trans (by cases s.life.lock <;> rfl), ?_, h8, h9, h10, h11, h12, h13, ?_, statusWord_lt s⟩
    · exact (Bool.eq_iff_iff.mp hrunning).trans running_iff
    · exact (Bool.eq_iff_iff.mp hdraining).trans bne_iff_ne
    · exact (Bool.eq_iff_iff.mp h14).trans beq_iff_eq

end Sys2Proof.Machine
end

section
/-! PROOFS. What an instruction does to the calibrator and to the calibration lock: one lemma that says what each
instruction touching them can do, and one that says no other does (spec/10_state.md R43, R49). -/

namespace Sys2Proof.Machine

/-! ## Which words run which instructions -/

theorem plainCommand_encodes {opc : BitVec 8} {i : Instr} (h : plainCommand opc = some i) :
    encode i = some (commandWord opc 0#4) := by
  unfold plainCommand at h
  split_ifs at h with h1 h2 h3 h4 h5 h6 h7 h8 <;> cases h <;> subst opc <;> rfl

/-- A word decodes to an instruction of the opcode map only: no word runs an internal operation
(spec/30_encoding.md R88, R95). -/
theorem decode_encodes {w : Word} {i : Instr} (h : decode w = .ok i) : ∃ v, encode i = some v := by
  unfold decode at h
  split at h
  · cases h
  split at h
  · cases h
    exact ⟨_, rfl⟩
  split at h
  · cases h
  · rename_i j hj
    split at h <;> cases h
    exact ⟨_, plainCommand_encodes hj⟩

/-! ## Instructions that leave the calibrator and the lock alone -/

/-- The instructions that may write the calibrator or the lock. -/
def touchesCal : Instr → Bool
  | .devOpen | .calStart _ | .calShot | .calPoint | .calFit => true
  | _ => false

/-- The calibrator and the calibration lock are the same in both states. -/
structure SameCal (s t : State) : Prop where
  cal : t.cal = s.cal
  lock : t.life.lock = s.life.lock

theorem SameBlock.sameCal {s t : State} (h : SameBlock s t) : SameCal s t :=
  ⟨h.cal, congrArg Lifecycle.lock h.life⟩

theorem SameCal.trans {s t u : State} (h : SameCal s t) (k : SameCal t u) : SameCal s u :=
  ⟨k.cal.trans h.cal, k.lock.trans h.lock⟩

theorem execDevClose_sameCal {s t : State} (h : execDevClose s = .next t) : SameCal s t := by
  unfold execDevClose at h
  split at h
  · cases h; exact ⟨rfl, rfl⟩
  · cases h; exact ⟨rfl, rfl⟩
  · split at h <;> cases h <;> exact ⟨rfl, rfl⟩

theorem ringPush?_sameCal {s t : State} {x : RawSample} (h : s.ringPush? x = some t) : SameCal s t := by
  obtain ⟨c, -, -, rfl⟩ := ringPush?_some h
  exact ⟨noteDrop_cal _, congrArg Lifecycle.lock (noteDrop_life _)⟩

theorem execRbPush_sameCal {s t : State} {x : RawSample} (h : execRbPush x s = .next t) : SameCal s t := by
  unfold execRbPush at h
  split at h
  · cases h
  · rename_i u hu
    cases h
    exact ringPush?_sameCal hu

theorem execCapDrainStep_sameCal {s t : State} (h : execCapDrainStep s = .next t) : SameCal s t := by
  unfold execCapDrainStep at h
  dsimp only at h
  split at h
  · split at h
    · cases h
      have k := (dread_sameBlock .fifoCsr s).sameCal
      exact ⟨k.cal, k.lock⟩
    · split at h
      · cases h
      · rename_i u hu
        cases h
        have k := (((dread_sameBlock .fifoCsr s).trans (readTuple_sameBlock _)).sameCal).trans (ringPush?_sameCal hu)
        exact ⟨k.cal, k.lock⟩
  · cases h; exact ⟨rfl, rfl⟩

theorem execCapDrainFinish_sameCal {s t : State} (h : execCapDrainFinish s = .next t) : SameCal s t := by
  unfold execCapDrainFinish at h
  dsimp only at h
  split at h
  · split at h
    · cases h; exact ⟨rfl, rfl⟩
    · split at h <;> cases h <;> exact ⟨rfl, rfl⟩
  · cases h; exact ⟨rfl, rfl⟩

theorem execCapDeliver_sameCal {s t : State} (h : execCapDeliver s = .next t) : SameCal s t := by
  unfold execCapDeliver at h
  split at h
  · split at h
    · cases h
    · cases h; exact ⟨rfl, rfl⟩
    · cases h
    · split at h
      · cases h; exact ⟨rfl, rfl⟩
      · cases h
  · cases h; exact ⟨rfl, rfl⟩

theorem execLcStopCapture_sameCal {s t : State} (h : execLcStopCapture s = .next t) : SameCal s t := by
  unfold execLcStopCapture at h
  dsimp only at h
  split at h
  · cases h
    cases s.capt.mode <;> exact ⟨rfl, rfl⟩
  · cases h; exact ⟨rfl, rfl⟩

/-- Every instruction but `dev.open` and the calibrator's leaves the calibrator and the lock as they are. -/
theorem exec_sameCal {i : Instr} {s t : State} (hi : touchesCal i = false) (h : exec i s = .next t) : SameCal s t := by
  cases i with
  | nop | tvP2t => cases h; exact ⟨rfl, rfl⟩
  | tvNorm | tvAdd | tvSub | tvT2p | rbNew | rbPop | capTick | capIrq | lcStopComp | lcRelease =>
    simp only [exec, execTvNorm, execTvAdd, execTvSub, execTvT2p, execRbNew, execRbPop, execCapTick, execCapIrq,
      execLcStopComp, execLcRelease] at h
    split at h <;> cases h <;> exact ⟨rfl, rfl⟩
  | devClose => exact execDevClose_sameCal h
  | rbPush x => exact execRbPush_sameCal h
  | capDrainStep => exact execCapDrainStep_sameCal h
  | capDrainFinish => exact execCapDrainFinish_sameCal h
  | capDeliver => exact execCapDeliver_sameCal h
  | lcStopCapture => exact execLcStopCapture_sameCal h
  | devOpen | calStart _ | calShot | calPoint | calFit => cases hi

/-! ## The instructions that touch them -/

/-- `dev.open` (spec/44_device.md R216): it is rejected and writes `ERR` only, or it opens a CLOSED device. -/
theorem execDevOpen_cases {s t : State} (h : execDevOpen s = .next t) :
    (∃ code, t = s.setErr code opcDevOpen) ∨
      (s.life.fatal = false ∧ s.life.dev = .closed ∧ ringCapOk s.cfg.rbCap = true ∧
        ((s.cfg.mode = .poll ∧ t = s.openDevice.setErr .ok opcDevOpen) ∨
          (s.cfg.mode = .irq ∧ t = s.openDevice.primeIrq.setErr .ok opcDevOpen))) := by
  unfold execDevOpen at h
  split at h
  · cases h; exact .inl ⟨_, rfl⟩
  rename_i hs
  split at h
  · cases h; exact .inl ⟨_, rfl⟩
  rename_i hc
  simp only [not_or, Bool.not_eq_true, not_not] at hs
  refine .inr ⟨hs.1, hs.2, by simpa using hc, ?_⟩
  split at h <;> rename_i hm <;> cases h
  · exact .inl ⟨hm, rfl⟩
  · exact .inr ⟨hm, rfl⟩

/-- `cal.start` (spec/43_calibrator.md R180): it is rejected and writes `ERR` only, or finds the bus broken, which is
fatal, or starts a run and takes the FREE lock. -/
theorem execCalStart_cases {ch : BitVec 4} {s t : State} (h : execCalStart ch s = .next t) :
    (∃ code, t = s.setErr code opcCalStart) ∨
      t = (({ s with cal := { s.cal with err := .hwFault } } : State).fatalTeardown).setErr .hwFault opcCalStart ∨
      (s.life.lock = .free ∧ s.life.fatal = false ∧ s.life.dev = .opened ∧ s.cal.running = false ∧
        s.cfg.calOk = true ∧ ∃ c, Chan.ofNat? ch.toNat = some c ∧
          t = ({ s with cal := s.cal.started s.cfg c, life := { s.life with lock := .cal } } : State).setErr .ok
            opcCalStart) := by
  unfold execCalStart at h
  split at h
  · cases h; exact .inl ⟨_, rfl⟩
  rename_i hs
  split at h
  · cases h; exact .inl ⟨_, rfl⟩
  rename_i hr
  split at h
  · cases h; exact .inl ⟨_, rfl⟩
  rename_i c hc
  split at h
  · cases h; exact .inl ⟨_, rfl⟩
  rename_i hok
  split at h
  · cases h; exact .inr (.inl rfl)
  split at h
  · cases h; exact .inl ⟨_, rfl⟩
  rename_i hl
  cases h
  simp only [not_or, Bool.not_eq_true, not_not] at hs hl
  exact .inr (.inr ⟨hl, hs.1, hs.2, by simpa using hr, by simpa using hok, c, hc, rfl⟩)

/-- `cal.shot` (spec/43_calibrator.md R184 to R186, R197): it is not enabled and holds, or after its transactions it
aborts the run or accumulates the value of the raw result. -/
theorem execCalShot_cases {s t : State} (h : execCalShot s = .next t) :
    t = s ∨ (s.cal.shotEnabled = true ∧ ∃ o u, s.armShot.tdcWait s.cal.waitL.toNat = (o, u) ∧ SameBlock s u ∧
      ((∃ code, o = .failed code ∧ t = u.abortRun code) ∨
        ∃ raw v, o = .raw raw ∧ u.cal.denL ≠ 0#32 ∧ v = toPsExact u.cal.numL u.cal.denL u.cal.binL raw ∧
          t = (u.noteOvf (outsideS64 v)).accumulate (wrapS64 v))) := by
  unfold execCalShot at h
  split at h
  · rename_i he
    have k := (armShot_sameBlock s).trans (tdcWait_sameBlock s.cal.waitL.toNat s.armShot)
    split at h
    · rename_i code u hu
      cases h
      rw [hu] at k
      exact .inr ⟨he, _, u, hu, k, .inl ⟨code, rfl, rfl⟩⟩
    · rename_i raw u hu
      rw [hu] at k
      split at h
      · cases h
      · rename_i hden
        cases h
        exact .inr ⟨he, _, u, hu, k, .inr ⟨raw, _, rfl, hden, rfl, rfl⟩⟩
  · cases h; exact .inl rfl

/-- `cal.point` (spec/43_calibrator.md R187): it is not enabled and holds, or completes the bias or a midpoint. -/
theorem execCalPoint_cases {s t : State} (h : execCalPoint s = .next t) :
    t = s ∨ (s.cal.pointEnabled = true ∧
      ((s.cal.phase = .bias ∧ t = { s with cal := s.cal.biasDone s.cal.average }) ∨
        (s.cal.phase = .search ∧ t = { s with cal := s.cal.searchDone s.cal.average }))) := by
  unfold execCalPoint at h
  split at h
  · rename_i he
    split at h
    · cases h
    · split at h <;> rename_i hp <;> cases h
      · exact .inr ⟨he, .inl ⟨hp, rfl⟩⟩
      · exact .inr ⟨he, .inr ⟨hp, rfl⟩⟩
      · exact .inl rfl
      · exact .inl rfl
  · cases h; exact .inl rfl

/-- `cal.fit` (spec/43_calibrator.md R192): it is not enabled and holds, or commits the channel's result after its
transactions. -/
theorem execCalFit_cases {s t : State} (h : execCalFit s = .next t) :
    t = s ∨ (s.cal.fsm = .binarySearching ∧ s.cal.phase = .fit ∧ ∃ off,
      off = fitOffsetExact s.cal.low (polyTap s.cal.c0L s.cal.c1L s.cal.c2L s.card.temp) ∧
        t = ((s.noteOvf (outsideS32 off)).dwrite (.dlyTap s.cal.calCh) (s.cal.low.setWidth 32)).commit
          (wrapS32 off)) := by
  unfold execCalFit at h
  split at h
  · rename_i hf
    cases h
    exact .inr ⟨hf.1, hf.2, _, rfl, rfl⟩
  · cases h; exact .inl rfl

/-- A search update keeps the results (spec/43_calibrator.md R189). -/
theorem searchDone_res (avg : BitVec 64) (c : Calibrator) : (c.searchDone avg).res = c.res := by
  have hmove : (c.moveBound avg).res = c.res := by
    unfold Calibrator.moveBound
    split <;> rfl
  unfold Calibrator.searchDone
  dsimp only
  split
  · exact hmove
  · exact hmove

/-- The fatal teardown leaves the lock and the calibrator as they are (spec/44_device.md R221). -/
theorem fatalTeardown_sameCal (s : State) : SameCal s s.fatalTeardown := by
  rcases fatalTeardown_cases s with ⟨-, h⟩ | ⟨-, h⟩ <;> rw [h] <;> exact ⟨rfl, rfl⟩

/-- What an instruction does to the results of the channels (spec/10_state.md R43). -/
theorem exec_res_cases {i : Instr} {s t : State} (h : exec i s = .next t) :
    t.cal.res = s.cal.res ∨
      (s.life.dev = .closed ∧ t.life.dev = .opened ∧ t.cal.res = .all CalResult.zero) ∨
      (s.cal.fsm = .binarySearching ∧ s.cal.phase = .fit ∧ t.cal.fsm = .converged ∧ ∃ off, t.cal.res =
        s.cal.res.set s.cal.calCh { valid := true, tap := s.cal.low, offset := off, delay := s.cal.lowDelay }) := by
  by_cases hi : touchesCal i = false
  · exact .inl (congrArg Calibrator.res (exec_sameCal hi h).cal)
  cases i with
  | devOpen =>
    rcases execDevOpen_cases h with ⟨code, rfl⟩ | ⟨-, hdev, -, ⟨-, rfl⟩ | ⟨-, rfl⟩⟩
    · exact .inl rfl
    · exact .inr (.inl ⟨hdev, rfl, rfl⟩)
    · exact .inr (.inl ⟨hdev, rfl, rfl⟩)
  | calStart ch =>
    rcases execCalStart_cases h with ⟨code, rfl⟩ | rfl | ⟨-, -, -, -, -, c, -, rfl⟩
    · exact .inl rfl
    · have hcal := (fatalTeardown_sameCal { s with cal := { s.cal with err := .hwFault } }).cal
      exact .inl (by simp [hcal])
    · exact .inl rfl
  | calShot =>
    rcases execCalShot_cases h with rfl | ⟨-, o, u, -, hu, ⟨code, -, rfl⟩ | ⟨raw, v, -, -, -, rfl⟩⟩
    · exact .inl rfl
    · exact .inl (by simp [hu.cal])
    · exact .inl (by simp [hu.cal])
  | calPoint =>
    rcases execCalPoint_cases h with rfl | ⟨-, ⟨-, rfl⟩ | ⟨-, rfl⟩⟩
    · exact .inl rfl
    · exact .inl rfl
    · exact .inl (searchDone_res _ _)
  | calFit =>
    rcases execCalFit_cases h with rfl | ⟨hfsm, hphase, off, -, rfl⟩
    · exact .inl rfl
    · exact .inr (.inr ⟨hfsm, hphase, rfl, wrapS32 off, rfl⟩)
  | _ => exact absurd rfl hi

/-- A shot is enabled only during a run (spec/43_calibrator.md R184). -/
theorem shotEnabled_running {c : Calibrator} (h : c.shotEnabled = true) : c.running = true := by
  simp only [Calibrator.shotEnabled, Bool.and_eq_true] at h
  exact h.1.1

/-- What an instruction does to the calibration lock (spec/10_state.md R49). -/
theorem exec_lock_cases {i : Instr} {s t : State} (h : exec i s = .next t) :
    t.life.lock = s.life.lock ∨
      (∃ ch, i = .calStart ch ∧ s.life.lock = .free ∧ t.life.lock = .cal ∧ t.cal.running = true) ∨
      ((i = .calShot ∨ i = .calFit) ∧ s.cal.running = true ∧ t.cal.running = false ∧ t.life.lock = .free) := by
  by_cases hi : touchesCal i = false
  · exact .inl (exec_sameCal hi h).lock
  cases i with
  | devOpen =>
    rcases execDevOpen_cases h with ⟨code, rfl⟩ | ⟨-, -, -, ⟨-, rfl⟩ | ⟨-, rfl⟩⟩ <;> exact .inl rfl
  | calStart ch =>
    rcases execCalStart_cases h with ⟨code, rfl⟩ | rfl | ⟨hfree, -, -, -, -, c, -, rfl⟩
    · exact .inl rfl
    · exact .inl (fatalTeardown_sameCal _).lock
    · exact .inr (.inl ⟨ch, rfl, hfree, rfl, rfl⟩)
  | calShot =>
    rcases execCalShot_cases h with rfl | ⟨hen, o, u, -, hu, ⟨code, -, rfl⟩ | ⟨raw, v, -, -, -, rfl⟩⟩
    · exact .inl rfl
    · exact .inr (.inr ⟨.inl rfl, shotEnabled_running hen, rfl, rfl⟩)
    · exact .inl hu.sameCal.lock
  | calPoint =>
    rcases execCalPoint_cases h with rfl | ⟨-, ⟨-, rfl⟩ | ⟨-, rfl⟩⟩ <;> exact .inl rfl
  | calFit =>
    rcases execCalFit_cases h with rfl | ⟨hfsm, -, off, -, rfl⟩
    · exact .inl rfl
    · exact .inr (.inr ⟨.inr rfl, running_iff.mpr (.inr hfsm), rfl, rfl⟩)
  | _ => exact absurd rfl hi

/-! ## Steps -/

/-- A write of a register leaves the calibrator and the lifecycle as they are (spec/10_state.md R23). -/
theorem writeCsr_cal_life (s : State) (w : Word) (r : Csr) :
    (writeCsr s w r).cal = s.cal ∧ (writeCsr s w r).life = s.life := by
  cases r <;> exact ⟨rfl, rfl⟩

/-- A step that completes is idle, runs the instruction of the schedule's head, or finishes that head at once. -/
theorem step_inversion {s t : State} (h : step s = .next t) :
    t = s ∨ ∃ e rest, s.sched = e :: rest ∧
      ((∃ i u, eventStep e { s with sched := rest } = .run i u ∧ exec i u = .next t) ∨
        eventStep e { s with sched := rest } = .done t) := by
  rcases step_cases h with rfl | ⟨e, rest, hs, ho⟩
  · exact .inl rfl
  refine .inr ⟨e, rest, hs, ?_⟩
  cases he : eventStep e { s with sched := rest } with
  | run i u =>
    rw [he] at ho
    exact .inl ⟨i, u, rfl, ho⟩
  | done u =>
    rw [he] at ho
    cases ho
    exact .inr rfl

/-- What runs an instruction: the command of a host write to `CMD`, with the word stored, or an agent's step
(spec/10_state.md R26, spec/30_encoding.md R95). -/
theorem eventStep_run_cases {e : Event} {i : Instr} {s u : State} (h : eventStep e s = .run i u) :
    (∃ w, e = .hostWrite 0x004 w ∧ decode w = .ok i ∧ u = { s with cmd := w }) ∨
      (u = s ∧ ((e = .drainer ∧ i = drainerOp s) ∨ (e = .deliverer ∧ i = .capDeliver) ∨
        (e = .calibrator ∧ i = calibratorOp s) ∨ (e = .lifecycle ∧ lifecycleOp s = some i) ∨
        (e = .envTick ∧ i = .capTick))) := by
  cases e with
  | hostWrite off w =>
    rcases hostWrite_cases off w s with ⟨j, rfl, hd, hw⟩ | hw | ⟨r, -, hw⟩ | hw <;>
      rw [eventStep, hw] at h <;> cases h
    exact .inl ⟨w, rfl, hd, rfl⟩
  | lifecycle =>
    cases hop : lifecycleOp s <;> simp only [eventStep, hop] at h <;> cases h
    exact .inr ⟨rfl, by simp⟩
  | drainer | deliverer | calibrator | envTick =>
    cases h
    exact .inr ⟨rfl, by simp⟩
  | hostRead _ | envFifo _ | compAcquire | compRelease | compWrite _ _ | envInputs _ _ | envTdc _ | envFifoCsr _
  | reset => cases h

theorem drainerOp_touchesCal (s : State) : touchesCal (drainerOp s) = false := by
  unfold drainerOp
  cases s.capt.dr <;> rfl

theorem lifecycleOp_touchesCal {s : State} {i : Instr} (h : lifecycleOp s = some i) : touchesCal i = false := by
  unfold lifecycleOp at h
  cases hp : s.life.phase <;> simp only [hp] at h <;> cases h <;> rfl

theorem calibratorOp_cases (s : State) :
    calibratorOp s = .calShot ∨ calibratorOp s = .calPoint ∨ calibratorOp s = .calFit := by
  unfold calibratorOp
  split
  · exact .inr (.inr rfl)
  · exact .inl rfl
  all_goals split <;> simp

/-- An instruction that may touch the calibrator or the lock is run by a host write to `CMD` or by the calibrator. -/
theorem eventStep_run_touchesCal {e : Event} {i : Instr} {s u : State} (h : eventStep e s = .run i u)
    (hi : touchesCal i = true) :
    (∃ w, e = .hostWrite 0x004 w ∧ decode w = .ok i) ∨ (e = .calibrator ∧ i = calibratorOp s) := by
  rcases eventStep_run_cases h with ⟨w, he, hd, -⟩ | ⟨-, ⟨-, rfl⟩ | ⟨-, rfl⟩ | hc | ⟨-, hl⟩ | ⟨-, rfl⟩⟩
  · exact .inl ⟨w, he, hd⟩
  · rw [drainerOp_touchesCal] at hi; cases hi
  · cases hi
  · exact .inr hc
  · rw [lifecycleOp_touchesCal hl] at hi; cases hi
  · cases hi

/-- `cal.start` is run by a host write to `CMD` only (spec/30_encoding.md R95). -/
theorem eventStep_run_calStart {e : Event} {ch : BitVec 4} {s u : State} (h : eventStep e s = .run (.calStart ch) u) :
    ∃ w, e = .hostWrite 0x004 w ∧ decode w = .ok (.calStart ch) := by
  rcases eventStep_run_touchesCal h rfl with hw | ⟨-, hi⟩
  · exact hw
  · rcases calibratorOp_cases s with hc | hc | hc <;> rw [hc] at hi <;> cases hi

/-- A shot and the fit are run by the calibrator only (spec/30_encoding.md R95). -/
theorem eventStep_run_calibrator {e : Event} {i : Instr} {s u : State} (h : eventStep e s = .run i u)
    (hi : i = .calShot ∨ i = .calFit) : e = .calibrator := by
  have htouch : touchesCal i = true := by rcases hi with rfl | rfl <;> rfl
  rcases eventStep_run_touchesCal h htouch with ⟨w, -, hd⟩ | ⟨he, -⟩
  · obtain ⟨v, hv⟩ := decode_encodes hd
    rcases hi with rfl | rfl <;> cases hv
  · exact he

/-- An instruction begins with the calibrator and the lifecycle that its event found. -/
theorem eventStep_run_frame {e : Event} {i : Instr} {s u : State} (h : eventStep e s = .run i u) :
    u.cal = s.cal ∧ u.life = s.life := by
  rcases eventStep_run_cases h with ⟨w, -, -, rfl⟩ | ⟨rfl, -⟩ <;> exact ⟨rfl, rfl⟩

/-- A step finished at once is reset, a move of the lock by the compensator, or leaves the calibrator and the lifecycle
as they are. -/
theorem eventStep_done_cases {e : Event} {s t : State} (h : eventStep e s = .done t) :
    e = .reset ∨ (e = .compAcquire ∧ t = s.compAcquire) ∨ (e = .compRelease ∧ t = s.compRelease) ∨
      (t.cal = s.cal ∧ t.life = s.life) := by
  cases e with
  | reset => exact .inl rfl
  | compAcquire => cases h; exact .inr (.inl ⟨rfl, rfl⟩)
  | compRelease => cases h; exact .inr (.inr (.inl ⟨rfl, rfl⟩))
  | hostRead off =>
    cases h
    unfold State.hostRead
    split <;> exact .inr (.inr (.inr ⟨rfl, rfl⟩))
  | hostWrite off w =>
    rcases hostWrite_cases off w s with ⟨j, -, -, hw⟩ | hw | ⟨r, -, hw⟩ | hw <;> rw [eventStep, hw] at h <;> cases h
    · exact .inr (.inr (.inr ⟨rfl, rfl⟩))
    · exact .inr (.inr (.inr (writeCsr_cal_life s w r)))
    · exact .inr (.inr (.inr ⟨rfl, rfl⟩))
  | lifecycle =>
    cases hop : lifecycleOp s <;> simp only [eventStep, hop] at h <;> cases h
    exact .inr (.inr (.inr ⟨rfl, rfl⟩))
  | compWrite ch w =>
    cases h
    unfold State.compWrite
    split <;> exact .inr (.inr (.inr ⟨rfl, rfl⟩))
  | envFifo _ | envInputs _ _ | envTdc _ | envFifoCsr _ => cases h; exact .inr (.inr (.inr ⟨rfl, rfl⟩))
  | drainer | deliverer | calibrator | envTick => cases h

/-- The compensator takes a FREE lock while `COMP_RUN` is 1, or changes nothing (spec/10_state.md R49). -/
theorem compAcquire_cases (s : State) :
    s.compAcquire = s ∨ (s.life.lock = .free ∧ s.life.compRun = true ∧
      s.compAcquire = { s with life := { s.life with lock := .comp } }) := by
  unfold State.compAcquire
  split
  · rename_i hc
    exact .inr ⟨hc.1, hc.2, rfl⟩
  · exact .inl rfl

/-- The compensator frees the lock it holds, or changes nothing (spec/10_state.md R49). -/
theorem compRelease_cases (s : State) :
    s.compRelease = s ∨ (s.life.lock = .comp ∧
      s.compRelease = { s with life := { s.life with lock := .free } }) := by
  unfold State.compRelease
  split
  · rename_i hc
    exact .inr ⟨hc, rfl⟩
  · exact .inl rfl

/-- The compensator's moves of the lock leave the calibrator as it is. -/
theorem compAcquire_cal (s : State) : s.compAcquire.cal = s.cal := by
  rcases compAcquire_cases s with h | ⟨-, -, h⟩ <;> rw [h]

theorem compRelease_cal (s : State) : s.compRelease.cal = s.cal := by
  rcases compRelease_cases s with h | ⟨-, h⟩ <;> rw [h]

/-- A write of the compensator while it holds the lock keeps the low 10 bits (spec/10_state.md R49, log 17). -/
theorem compWrite_held {s : State} (h : s.life.lock = .comp) (ch : Chan) (w : Word) :
    s.compWrite ch w = { s with card := { s.card with dlyTap := s.card.dlyTap.set ch (w.setWidth 10) } } := by
  rw [BitVec.setWidth_eq_extractLsb' (by omega), State.compWrite, if_pos h, Card.written]

/-- A write of the compensator without the lock changes nothing (log 2). -/
theorem compWrite_not_held {s : State} (h : s.life.lock ≠ .comp) (ch : Chan) (w : Word) : s.compWrite ch w = s :=
  if_neg h

/-- Settles O45: by `exec_res_cases` an instruction writes the results only when it opens the device or fits, and a step
finished at once writes them only at reset. -/
theorem resultsWritten : Obligations.ResultsWritten := by
  intro s t ch h hne
  rcases step_inversion h with rfl | ⟨e, rest, hs, ⟨i, u, he, hx⟩ | he⟩
  · exact absurd rfl hne
  · obtain ⟨hcal, hlife⟩ := eventStep_run_frame he
    rcases exec_res_cases hx with hres | ⟨hdev, hopen, hres⟩ | ⟨hfsm, hphase, hconv, off, hres⟩
    · rw [hres, hcal] at hne
      exact absurd rfl hne
    · rw [hlife] at hdev
      exact .inr (.inl ⟨hdev, hopen, by rw [hres]; cases ch <;> rfl⟩)
    · rw [hcal] at hfsm hphase hres
      rw [hres, Quad.get_set] at hne
      have hch : ch = s.cal.calCh := by
        by_contra hc
        exact hne (if_neg hc)
      refine .inr (.inr ⟨hfsm, hphase, hch, hconv, ?_, ?_⟩) <;> rw [hres, Quad.get_set, if_pos hch]
  · rcases eventStep_done_cases he with rfl | ⟨-, rfl⟩ | ⟨-, rfl⟩ | ⟨hcal, -⟩
    · exact .inl (by rw [hs]; rfl)
    · exact absurd (by rw [compAcquire_cal]) hne
    · exact absurd (by rw [compRelease_cal]) hne
    · exact absurd (by rw [hcal]) hne

/-- What moves the lock (spec/10_state.md R49). That a run which ends holds it is the invariant's `CalInv.lock`. -/
theorem lock_moved {s t : State} (hinv : Inv s) (h : step s = .next t) (hne : t.life.lock ≠ s.life.lock) :
    s.sched.head? = some .reset ∨
    (s.life.lock = .free ∧ t.life.lock = .cal ∧ t.cal.running = true ∧
      ∃ w ch, s.sched.head? = some (.hostWrite 0x004 w) ∧ decode w = .ok (.calStart ch)) ∨
    (s.life.lock = .cal ∧ t.life.lock = .free ∧ s.cal.running = true ∧ t.cal.running = false ∧
      s.sched.head? = some .calibrator) ∨
    (s.life.lock = .free ∧ t.life.lock = .comp ∧ s.life.compRun = true ∧
      s.sched.head? = some .compAcquire) ∨
    (s.life.lock = .comp ∧ t.life.lock = .free ∧ s.sched.head? = some .compRelease) := by
  rcases step_inversion h with rfl | ⟨e, rest, hs, ⟨i, u, he, hx⟩ | he⟩
  · exact absurd rfl hne
  · have hhead : s.sched.head? = some e := by rw [hs]; rfl
    obtain ⟨hcal, hlife⟩ := eventStep_run_frame he
    rcases exec_lock_cases hx with hlock | ⟨ch, rfl, hfree, htaken, hrun⟩ | ⟨hi, hrun, hend, hfree⟩
    · rw [hlock, hlife] at hne
      exact absurd rfl hne
    · obtain ⟨w, rfl, hd⟩ := eventStep_run_calStart he
      rw [hlife] at hfree
      exact .inr (.inl ⟨hfree, htaken, hrun, w, ch, by rw [hs]; rfl, hd⟩)
    · obtain rfl := eventStep_run_calibrator he hi
      rw [hcal] at hrun
      exact .inr (.inr (.inl ⟨hinv.cal.lock.mp hrun, hfree, hrun, hend, hhead⟩))
  · have hhead : s.sched.head? = some e := by rw [hs]; rfl
    rcases eventStep_done_cases he with rfl | ⟨rfl, rfl⟩ | ⟨rfl, rfl⟩ | ⟨-, hlife⟩
    · exact .inl hhead
    · rcases compAcquire_cases { s with sched := rest } with hk | ⟨hfree, hrun, hk⟩ <;> rw [hk] at hne ⊢
      · exact absurd rfl hne
      · exact .inr (.inr (.inr (.inl ⟨hfree, rfl, hrun, hhead⟩)))
    · rcases compRelease_cases { s with sched := rest } with hk | ⟨hheld, hk⟩ <;> rw [hk] at hne ⊢
      · exact absurd rfl hne
      · exact .inr (.inr (.inr (.inr ⟨hheld, rfl, hhead⟩)))
    · rw [hlife] at hne
      exact absurd rfl hne

/-- Settles O46: the moves of the lock are `lock_moved`; a write of the compensator is `compWrite_held` or
`compWrite_not_held`. -/
theorem lockMoves : Obligations.LockMoves := by
  refine ⟨fun s t hinv h hne => lock_moved hinv h hne, fun s rest ch w hs => ⟨fun hl => ?_, fun hl => ?_⟩⟩
  · rw [step_of_sched_cons hs, eventStep, Fetched.outcome_done, compWrite_not_held (s := { s with sched := rest }) hl]
  · rw [step_of_sched_cons hs, eventStep, Fetched.outcome_done, compWrite_held (s := { s with sched := rest }) hl]

end Sys2Proof.Machine
end

section
/-! PROOFS. No instruction reads `POLL_MS` or `COMP_PERIOD_S` (spec/10_state.md R33, R41): every operation commutes with
a change of those two registers. -/

namespace Sys2Proof.Machine

/-- An outcome with its next state, if there is one, changed by f. -/
def mapNext (f : State → State) : Result → Result
  | .next s => .next (f s)
  | .fault r => .fault r
  | .refused r => .refused r

/-- An outcome chosen by a condition, and both its choices changed by f. -/
theorem ite_mapNext {f : State → State} {p q : Prop} [Decidable p] [Decidable q] {a b a' b' : Result} (hc : p ↔ q)
    (ha : a' = mapNext f a) (hb : b' = mapNext f b) :
    (if p then a' else b') = mapNext f (if q then a else b) := by
  rw [apply_ite (mapNext f), ha, hb]
  exact if_congr hc rfl rfl

section Timers

variable (poll comp : Word)

/-! ## The parts of the state without the two registers -/

@[simp] theorem withTimers_tvu (s : State) : (s.withTimers poll comp).tvu = s.tvu := rfl
@[simp] theorem withTimers_ring (s : State) : (s.withTimers poll comp).ring = s.ring := rfl
@[simp] theorem withTimers_capt (s : State) : (s.withTimers poll comp).capt = s.capt := rfl
@[simp] theorem withTimers_cal (s : State) : (s.withTimers poll comp).cal = s.cal := rfl
@[simp] theorem withTimers_life (s : State) : (s.withTimers poll comp).life = s.life := rfl
@[simp] theorem withTimers_card (s : State) : (s.withTimers poll comp).card = s.card := rfl
@[simp] theorem withTimers_cfg_rbCap (s : State) : (s.withTimers poll comp).cfg.rbCap = s.cfg.rbCap := rfl
@[simp] theorem withTimers_cfg_mode (s : State) : (s.withTimers poll comp).cfg.mode = s.cfg.mode := rfl
@[simp] theorem withTimers_cfg_calOk (s : State) : (s.withTimers poll comp).cfg.calOk = s.cfg.calOk := rfl

/-! ## The port and the ring -/

theorem withTimers_headField (f : CardTuple → Word) (s : State) :
    (s.withTimers poll comp).headField f = ((s.headField f).1, (s.headField f).2.withTimers poll comp) := by
  simp only [State.headField, withTimers_card]
  split <;> rfl

theorem withTimers_tdcDraw (s : State) :
    (s.withTimers poll comp).tdcDraw = (s.tdcDraw.1, s.tdcDraw.2.withTimers poll comp) := by
  simp only [State.tdcDraw, withTimers_card]
  split <;> rfl

theorem withTimers_cardAnswer (r : ReadReg) (s : State) :
    (s.withTimers poll comp).cardAnswer r = ((s.cardAnswer r).1, (s.cardAnswer r).2.withTimers poll comp) := by
  cases r with
  | fifoCsr => rfl
  | fifoUtcHi | fifoUtcLo | fifoCoarse | fifoFrac => exact withTimers_headField poll comp _ s
  | fifoMeta => simp only [State.cardAnswer, withTimers_headField]; rfl
  | tdcStatus | tdcResult => exact withTimers_tdcDraw poll comp s

theorem withTimers_dread (r : ReadReg) (s : State) :
    (s.withTimers poll comp).dread r = ((s.dread r).1, (s.dread r).2.withTimers poll comp) := by
  simp only [State.dread, withTimers_cardAnswer]
  rfl

theorem withTimers_readTuple (s : State) :
    (s.withTimers poll comp).readTuple = (s.readTuple.1, s.readTuple.2.withTimers poll comp) := by
  simp only [State.readTuple, withTimers_dread]

theorem withTimers_tdcWait (n : Nat) (s : State) :
    (s.withTimers poll comp).tdcWait n = ((s.tdcWait n).1, (s.tdcWait n).2.withTimers poll comp) := by
  induction n generalizing s with
  | zero => rfl
  | succ n ih =>
    simp only [State.tdcWait, withTimers_dread, ih]
    split
    · rfl
    · split <;> rfl

theorem withTimers_noteDrop (s : State) : (s.withTimers poll comp).noteDrop = s.noteDrop.withTimers poll comp := by
  simp only [State.noteDrop, withTimers_ring]
  split <;> rfl

theorem withTimers_ringPush? (x : RawSample) (s : State) :
    (s.withTimers poll comp).ringPush? x = (s.ringPush? x).map (State.withTimers poll comp) := by
  simp only [State.ringPush?, withTimers_ring]
  split
  · rfl
  · exact congrArg some (withTimers_noteDrop poll comp { s with ring := s.ring.push _ x })

theorem withTimers_fatalTeardown (s : State) :
    (s.withTimers poll comp).fatalTeardown = s.fatalTeardown.withTimers poll comp := by
  simp only [State.fatalTeardown, withTimers_life]
  split <;> rfl

/-! ## The instructions -/

theorem withTimers_execDevOpen (s : State) :
    execDevOpen (s.withTimers poll comp) = mapNext (State.withTimers poll comp) (execDevOpen s) := by
  refine ite_mapNext Iff.rfl rfl (ite_mapNext Iff.rfl rfl ?_)
  rw [withTimers_cfg_mode]
  cases s.cfg.mode <;> rfl

theorem withTimers_execDevClose (s : State) :
    execDevClose (s.withTimers poll comp) = mapNext (State.withTimers poll comp) (execDevClose s) := by
  simp only [execDevClose, withTimers_life]
  split
  · rfl
  · rfl
  · exact ite_mapNext Iff.rfl rfl rfl

theorem withTimers_execCalStart (ch : BitVec 4) (s : State) :
    execCalStart ch (s.withTimers poll comp) = mapNext (State.withTimers poll comp) (execCalStart ch s) := by
  refine ite_mapNext Iff.rfl rfl (ite_mapNext Iff.rfl rfl ?_)
  cases Chan.ofNat? ch.toNat with
  | none => rfl
  | some c =>
    have hfatal := withTimers_fatalTeardown poll comp { s with cal := { s.cal with err := .hwFault } }
    exact ite_mapNext Iff.rfl rfl
      (ite_mapNext Iff.rfl (congrArg (raise .hwFault opcCalStart) hfatal) (ite_mapNext Iff.rfl rfl rfl))

theorem withTimers_execRbPush (x : RawSample) (s : State) :
    execRbPush x (s.withTimers poll comp) = mapNext (State.withTimers poll comp) (execRbPush x s) := by
  rw [execRbPush, execRbPush, withTimers_ringPush?]
  cases s.ringPush? x <;> rfl

theorem withTimers_execRbPop (s : State) :
    execRbPop (s.withTimers poll comp) = mapNext (State.withTimers poll comp) (execRbPop s) := by
  simp only [execRbPop, withTimers_ring]
  split <;> rfl

theorem withTimers_execCapDrainStep (s : State) :
    execCapDrainStep (s.withTimers poll comp) = mapNext (State.withTimers poll comp) (execCapDrainStep s) := by
  refine ite_mapNext Iff.rfl ?_ rfl
  dsimp only
  rw [withTimers_dread]
  refine ite_mapNext Iff.rfl rfl ?_
  rw [withTimers_readTuple, withTimers_ringPush?]
  cases (s.dread .fifoCsr).2.readTuple.2.ringPush? (s.dread .fifoCsr).2.readTuple.1 <;> rfl

theorem withTimers_execCapDrainFinish (s : State) :
    execCapDrainFinish (s.withTimers poll comp) = mapNext (State.withTimers poll comp) (execCapDrainFinish s) := by
  refine ite_mapNext Iff.rfl ?_ rfl
  rw [withTimers_capt]
  cases s.capt.drCtx with
  | poll => rfl
  | irq => exact ite_mapNext Iff.rfl rfl rfl

theorem withTimers_execCapDeliver (s : State) :
    execCapDeliver (s.withTimers poll comp) = mapNext (State.withTimers poll comp) (execCapDeliver s) := by
  refine ite_mapNext Iff.rfl ?_ rfl
  rw [withTimers_ring]
  cases s.ring.pop with
  | absent | empty _ | unwritten => rfl
  | sample x r => exact ite_mapNext Iff.rfl rfl rfl

theorem withTimers_execCalShot (s : State) :
    execCalShot (s.withTimers poll comp) = mapNext (State.withTimers poll comp) (execCalShot s) := by
  have harm : (s.withTimers poll comp).armShot = s.armShot.withTimers poll comp := rfl
  refine ite_mapNext Iff.rfl ?_ rfl
  rw [harm, withTimers_cal, withTimers_tdcWait]
  obtain ⟨o, u⟩ := s.armShot.tdcWait s.cal.waitL.toNat
  cases o with
  | failed code => rfl
  | raw v => exact ite_mapNext Iff.rfl rfl rfl

theorem withTimers_execCalPoint (s : State) :
    execCalPoint (s.withTimers poll comp) = mapNext (State.withTimers poll comp) (execCalPoint s) := by
  refine ite_mapNext Iff.rfl (ite_mapNext Iff.rfl rfl ?_) rfl
  rw [withTimers_cal]
  cases s.cal.phase <;> rfl

theorem withTimers_execLcStopCapture (s : State) :
    execLcStopCapture (s.withTimers poll comp) = mapNext (State.withTimers poll comp) (execLcStopCapture s) := by
  refine ite_mapNext Iff.rfl ?_ rfl
  dsimp only
  rw [withTimers_capt]
  cases s.capt.mode <;> rfl

/-- Every instruction commutes with a change of `POLL_MS` and `COMP_PERIOD_S`. -/
theorem exec_withTimers (i : Instr) (s : State) :
    exec i (s.withTimers poll comp) = mapNext (State.withTimers poll comp) (exec i s) := by
  cases i with
  | nop | tvP2t => rfl
  | tvNorm | tvAdd | tvSub | tvT2p | rbNew | capTick | capIrq | calFit | lcStopComp | lcRelease =>
    exact ite_mapNext Iff.rfl rfl rfl
  | devOpen => exact withTimers_execDevOpen poll comp s
  | devClose => exact withTimers_execDevClose poll comp s
  | calStart ch => exact withTimers_execCalStart poll comp ch s
  | rbPush x => exact withTimers_execRbPush poll comp x s
  | rbPop => exact withTimers_execRbPop poll comp s
  | capDrainStep => exact withTimers_execCapDrainStep poll comp s
  | capDrainFinish => exact withTimers_execCapDrainFinish poll comp s
  | capDeliver => exact withTimers_execCapDeliver poll comp s
  | calShot => exact withTimers_execCalShot poll comp s
  | calPoint => exact withTimers_execCalPoint poll comp s
  | lcStopCapture => exact withTimers_execLcStopCapture poll comp s

end Timers

/-- Settles O59: the outcome with other timers is the outcome itself with other timers (`exec_withTimers`). -/
theorem timersUnread : Obligations.TimersUnread := by
  intro i s t poll comp h
  rw [exec_withTimers, h]
  rfl

end Sys2Proof.Machine
end

section
/-! PROOFS. Host reads and bus errors (spec/20_memory.md R62, R63), the 64-bit registers and the operand sets of the
window (R64, spec/10_state.md R31). -/

namespace Sys2Proof.Machine

/-! ## Host reads -/

/-- A host read of a register (spec/20_memory.md R62, R69). -/
theorem hostRead_register (r : Csr) (s : State) : s.hostRead r.offset = { s with hostRdata := readCsr s r } := by
  simp [State.hostRead]

/-- Settles O8: the value is `hostRead_register`'s, and the schedule shows in no register (`readCsr_sched`). -/
theorem hostReadHasNoSideEffect : Obligations.HostReadHasNoSideEffect := by
  intro s rest r hs
  rw [step_of_sched_cons hs, eventStep, Fetched.outcome_done, hostRead_register, readCsr_sched]

/-! ## Bus errors -/

/-- A host access is a bus error exactly where no register stands (spec/20_memory.md R63). -/
theorem busErrorAt_iff {off : Nat} : busErrorAt off ↔ csrAt off = none := by
  rw [csrAt_eq_none]
  constructor
  · rintro (hmis | hout | hfree) r rfl
    · exact hmis (csr_offset_bound r).1
    · exact absurd (csr_offset_bound r).2 hout.not_gt
    · exact hfree r rfl
  · exact fun hfree => .inr (.inr hfree)

theorem hostRead_busError {off : Nat} (h : busErrorAt off) (s : State) :
    s.hostRead off = ({ s with hostRdata := 0#32 } : State).noteBusErr := by
  simp [State.hostRead, busErrorAt_iff.mp h]

theorem hostWrite_busError {off : Nat} (h : busErrorAt off) (w : Word) (s : State) :
    hostWrite off w s = .done s.noteBusErr := by
  simp [hostWrite, busErrorAt_iff.mp h]

/-- No host access to a register is a bus error. -/
theorem not_busErrorAt_offset (r : Csr) : ¬ busErrorAt r.offset := by
  simp [busErrorAt_iff]

/-- No two registers share an offset (spec/20_memory.md R71). -/
theorem Csr.offset_injective : Function.Injective Csr.offset := by
  intro r r' h
  have hat := csrAt_offset r
  rw [h, csrAt_offset] at hat
  exact (Option.some.inj hat).symm

/-- A host write of a `RO` register is ignored (spec/10_state.md R23). -/
theorem step_hostWrite_readOnly {s : State} {rest : List Event} {r : Csr} {w : Word} (hk : r.kind = .ro)
    (hs : s.sched = .hostWrite r.offset w :: rest) : step s = .next { s with sched := rest } := by
  have hr : r ≠ .cmd := by rintro rfl; cases hk
  rw [step_hostWrite_register hr hs, writeCsr_readOnly hk]

/-- Settles O10: a bus error finds no register (`busErrorAt_iff`), so the access only notes the error; a `RO` register
has its own offset, and its write is ignored (`step_hostWrite_readOnly`). -/
theorem busErrorEffect : Obligations.BusErrorEffect := by
  refine ⟨fun s rest off w hoff => ⟨fun hs => ?read, fun hs => ?write⟩,
    fun r => ⟨not_busErrorAt_offset r, fun r' hr' => Csr.offset_injective hr'⟩,
    fun s rest r w hk hs => step_hostWrite_readOnly hk hs⟩
  case read => rw [step_of_sched_cons hs, eventStep, Fetched.outcome_done, hostRead_busError hoff, State.noteBusErr]
  case write => rw [step_of_sched_cons hs, eventStep, hostWrite_busError hoff, Fetched.outcome_done, State.noteBusErr]

/-! ## 64-bit registers and operand sets -/

/-- A 64-bit register is `HI * 2^32 + LO` (spec/20_memory.md R64, spec/30_encoding.md R92). -/
theorem toNat_eq_halves (v : BitVec 64) :
    v.toNat = (halfOf v .hi).toNat * 2 ^ 32 + (halfOf v .lo).toNat := by
  have hv := v.isLt
  simp only [halfOf, hiWord, loWord, BitVec.extractLsb'_toNat, Nat.shiftRight_eq_div_pow]
  omega

/-- The two words f of the window show the 64-bit quantity v, the high word 4 bytes after the low one. -/
structure ShowsPair (f : Half → Csr) (v : State → BitVec 64) : Prop where
  read : ∀ s h, readCsr s (f h) = halfOf (v s) h
  offset : (f .hi).offset = (f .lo).offset + 4

theorem ShowsPair.toNat {f : Half → Csr} {v : State → BitVec 64} (h : ShowsPair f v) (s : State) :
    (v s).toNat = (readCsr s (f .hi)).toNat * 2 ^ 32 + (readCsr s (f .lo)).toNat := by
  rw [h.read, h.read]
  exact toNat_eq_halves (v s)

/-- The registers r of the window show the TimeValue v, from the offset `base` (spec/10_state.md R31). -/
structure ShowsTime (s : State) (base : Nat) (r : TvWord → Csr) (v : TimeValue) : Prop where
  read : ∀ w, readCsr s (r w) = timeWord v w
  offset : ∀ w, (r w).offset = base + w.offset

/-- `*_FRAC` has frac in [15:0] and 0 above (spec/10_state.md R31). -/
theorem fracWord_toNat (t : TimeValue) : (fracWord t).toNat = t.frac.toNat :=
  BitVec.toNat_setWidth_of_le (by omega)

/-- `*_META` has seq in [15:0], channel in [23:16] and 0 above (spec/10_state.md R31). -/
theorem metaOf_toNat (t : TimeValue) : (metaOf t).toNat = t.channel.toNat * 2 ^ 16 + t.seq.toNat := by
  simp only [metaOf, toNat_append_eq, BitVec.toNat_ofNat]
  omega

/-- Settles O13: each 64-bit register is a `ShowsPair`, each operand set a `ShowsTime`; what these say of the words is
`toNat_eq_halves`, `fracWord_toNat` and `metaOf_toNat`. -/
theorem registerPairsAndOperandSets : Obligations.RegisterPairsAndOperandSets := by
  refine ⟨fun s p ch hp => ?pairs, fun s p hp => ?sets⟩
  case pairs =>
    have hpair : ShowsPair p.1 p.2 := by
      simp only [List.mem_cons, List.not_mem_nil, or_false] at hp
      rcases hp with rfl | rfl | rfl | rfl | rfl | rfl | rfl | rfl | rfl | rfl | rfl | rfl | rfl | rfl | rfl | rfl
        | rfl | rfl | rfl <;> exact ⟨fun _ _ => rfl, rfl⟩
    exact ⟨hpair.toNat s, hpair.offset⟩
  case sets =>
    have hset : ShowsTime s p.1 p.2.1 p.2.2 := by
      simp only [List.mem_cons, List.not_mem_nil, or_false] at hp
      rcases hp with rfl | rfl | rfl <;> exact ⟨fun _ => rfl, fun _ => rfl⟩
    have hmeta := metaOf_toNat p.2.2
    have hseq := p.2.2.seq.isLt
    dsimp only
    rw [hset.read, hset.read, hset.read]
    exact ⟨hset.offset _, hset.offset _, hset.offset _, hset.offset _, rfl, fracWord_toNat p.2.2,
      by rw [timeWord]; omega, by rw [timeWord]; omega⟩

end Sys2Proof.Machine
end

section
/-! PROOFS. The downstream port (spec/20_memory.md R65) and the card's interrupt latch (R68). -/

namespace Sys2Proof.Machine

/-! ## `DownstreamMap` -/

/-- The logical card registers (spec/20_memory.md R66). -/
def cardRegs : List CardReg :=
  [.rd .fifoCsr, .rd .fifoUtcHi, .rd .fifoUtcLo, .rd .fifoCoarse, .rd .fifoFrac, .rd .fifoMeta, .rd .tdcStatus,
    .rd .tdcResult, .wr .irqEn, .wr .irqAck, .wr .calArm, .wr .tdcTrig, .wr .calPulse,
    .wr (.chCtrl .ch0), .wr (.chCtrl .ch1), .wr (.chCtrl .ch2), .wr (.chCtrl .ch3),
    .wr (.dlyTap .ch0), .wr (.dlyTap .ch1), .wr (.dlyTap .ch2), .wr (.dlyTap .ch3)]

theorem mem_cardRegs (r : CardReg) : r ∈ cardRegs := by
  cases r with
  | rd r => cases r <;> decide
  | wr r =>
    cases r with
    | chCtrl ch | dlyTap ch => cases ch <;> decide
    | irqEn | irqAck | calArm | tdcTrig | calPulse => decide

theorem cardRegIndex_injective : Function.Injective Config.cardRegIndex := by
  have hnodup : (cardRegs.map Config.cardRegIndex).Nodup := by decide
  exact fun a b h => List.inj_on_of_nodup_map hnodup (mem_cardRegs a) (mem_cardRegs b) h

/-- The numbers of the logical registers fit in `ADDR_W` bits (log 26). -/
theorem cardRegIndex_lt (r : CardReg) : Config.cardRegIndex r < 2 ^ Config.addrW := by
  have hindex : ∀ r ∈ cardRegs, Config.cardRegIndex r < 2 ^ 5 := by decide
  calc Config.cardRegIndex r < 2 ^ 5 := hindex r (mem_cardRegs r)
    _ ≤ 2 ^ Config.addrW := Nat.pow_le_pow_right (by omega) (Nat.le_add_right 5 _)

/-- Different logical registers have different addresses (spec/20_memory.md R65), whatever the platform's placing. -/
theorem downstreamMap_injective : Function.Injective Config.downstreamMap := by
  intro a b h
  have hnum := congrArg BitVec.toNat (Config.downstreamPlace.injective h)
  rw [BitVec.toNat_ofNat, BitVec.toNat_ofNat, Nat.mod_eq_of_lt (cardRegIndex_lt a),
    Nat.mod_eq_of_lt (cardRegIndex_lt b)] at hnum
  exact cardRegIndex_injective hnum

/-! ## Transactions -/

/-- A state of the same block is the first with another card, port record and count of free answers. -/
theorem SameBlock.eq_with {s t : State} (h : SameBlock s t) :
    t = { s with card := t.card, port := t.port, drawCtr := t.drawCtr } := by
  cases s
  cases t
  obtain ⟨rfl, rfl, rfl, rfl, rfl, rfl, rfl, rfl, rfl, rfl, rfl, rfl, rfl⟩ := h
  rfl

/-- `DRead` is one transaction; beside it only the card and the count of free answers move (spec/20_memory.md R65). -/
theorem dread_eq_with (r : ReadReg) (s : State) :
    (s.dread r).2 = { s with
      card := (s.dread r).2.card
      drawCtr := (s.dread r).2.drawCtr
      port := s.port ++ [.read r (s.dread r).1] } := by
  rw [← dread_port]
  exact (dread_sameBlock r s).eq_with

/-- Settles O60: the addresses by `downstreamMap_injective` and their type, a read by `dread_eq_with`, a write by the
definition of `DWrite`. -/
theorem downstreamTransactions : Obligations.DownstreamTransactions :=
  ⟨downstreamMap_injective, fun r => (Config.downstreamMap r).isLt,
    fun s r => ⟨_, _, _, Prod.ext rfl (dread_eq_with r s)⟩, fun s r v => ⟨s.card.written r v, rfl⟩⟩

/-! ## The interrupt latch -/

/-- The edge "FIFO not empty" latches the interrupt while it is enabled (spec/20_memory.md R68). -/
theorem appendTuple_edge {c : Card} (hempty : c.fifo = []) (hen : c.irqEn = true) (p : CardTuple) :
    c.appendTuple p = { c with fifo := [p], irqPend := true } := by
  simp [Card.appendTuple, hempty, hen]

/-- An append that is no edge, or while the interrupt is disabled, leaves the latch as it is (spec/20_memory.md R68). -/
theorem appendTuple_no_edge {c : Card} (h : c.fifo ≠ [] ∨ c.irqEn = false) (p : CardTuple) :
    c.appendTuple p = { c with fifo := c.fifo ++ [p] } := by
  have hlatch : (c.fifo.isEmpty && c.irqEn) = false := by
    rcases h with hfifo | hen
    · simp [hfifo]
    · simp [hen]
  rw [Card.appendTuple, hlatch, Bool.or_false]

/-- A write of 1 to `IRQ_ACK` clears the latch (spec/20_memory.md R68). -/
theorem written_irqAck_one (c : Card) : c.written .irqAck 1#32 = { c with irqPend := false } := rfl

/-- A write of 0 to `IRQ_EN` disables the interrupt and clears the latch (spec/20_memory.md R68). -/
theorem written_irqEn_zero (c : Card) : c.written .irqEn 0#32 = { c with irqEn := false, irqPend := false } := rfl

/-- The top-half starts a drain when it is enabled (spec/42_capture.md R150). -/
theorem exec_capIrq_enabled {s : State} (hpend : s.card.irqPend = true) (hdev : s.life.dev = .opened)
    (hmode : s.capt.mode = .irq) (hdr : s.capt.dr = .idle) : exec .capIrq s = .next (s.startDrain .irq) :=
  if_pos ⟨hpend, hdev, hmode, hdr⟩

/-- Settles O36: an append by `appendTuple_edge` or `appendTuple_no_edge`, the clearing writes by `written_irqAck_one`
and `written_irqEn_zero`, the top-half by `exec_capIrq_enabled`. -/
theorem cardInterruptLatch : Obligations.CardInterruptLatch := by
  refine ⟨fun s rest p hs => ⟨fun hempty hen => ?edge, fun hno => ?noEdge⟩, fun s => ⟨?ack, ?disable⟩,
    fun s hpend hdev hmode hdr => ⟨_, exec_capIrq_enabled hpend hdev hmode hdr, rfl⟩, rfl, rfl⟩
  case edge => rw [step_of_sched_cons hs, eventStep, Fetched.outcome_done, appendTuple_edge hempty hen]
  case noEdge => rw [step_of_sched_cons hs, eventStep, Fetched.outcome_done, appendTuple_no_edge hno]
  case ack => rw [dwrite_card, written_irqAck_one]
  case disable => rw [dwrite_card, written_irqEn_zero]

end Sys2Proof.Machine
end

section
/-! PROOFS. The command word: which words decode and to what, the encoder as the decoder's inverse, the opcode map, the
words that spell no command (spec/30_encoding.md R86 to R90), and the operations of the agents (R95). -/

namespace Sys2Proof.Machine

/-! ## What decodes -/

/-- A word decodes exactly when its reserved bits are clear and it spells `cal.start`, or another command of the map with
no channel (spec/30_encoding.md R87). -/
theorem decode_eq_ok_iff {w : Word} {i : Instr} :
    decode w = .ok i ↔ wordRsv w = 0#20 ∧
      (wordOpc w = opcCalStart ∧ i = .calStart (wordCh w) ∨
        plainCommand (wordOpc w) = some i ∧ wordCh w = 0#4) := by
  by_cases hrsv : wordRsv w = 0#20
  · by_cases hopc : wordOpc w = opcCalStart
    · have hstart : plainCommand opcCalStart = none := rfl
      simp [decode, hrsv, hopc, hstart, eq_comm]
    · cases hplain : plainCommand (wordOpc w) with
      | none => simp [decode, hrsv, hopc, hplain]
      | some j => by_cases hch : wordCh w = 0#4 <;> simp [decode, hrsv, hopc, hplain, hch]
  · simp [decode, hrsv]

theorem decode_plainWord {opc : BitVec 8} {i : Instr} (h : plainCommand opc = some i) :
    decode (commandWord opc 0#4) = .ok i := by
  obtain ⟨hrsv, hch, hopc⟩ := commandWord_fields opc 0#4
  exact decode_eq_ok_iff.mpr ⟨hrsv, .inr ⟨hopc.symm ▸ h, hch⟩⟩

/-- Every channel of `cal.start` decodes (spec/30_encoding.md R87). -/
theorem decode_calStartWord (ch : BitVec 4) : decode (commandWord opcCalStart ch) = .ok (.calStart ch) := by
  obtain ⟨hrsv, hch, hopc⟩ := commandWord_fields opcCalStart ch
  exact decode_eq_ok_iff.mpr ⟨hrsv, .inl ⟨hopc, by rw [hch]⟩⟩

/-! ## The encoder is the decoder's inverse -/

theorem decode_of_encode {i : Instr} {w : Word} (h : encode i = some w) : decode w = .ok i := by
  cases i with
  | calStart ch =>
    cases h
    exact decode_calStartWord ch
  | nop | tvNorm | tvAdd | tvSub | tvP2t | tvT2p | devOpen | devClose =>
    cases h
    exact decode_plainWord rfl
  | rbNew | rbPush | rbPop | capTick | capIrq | capDrainStep | capDrainFinish | capDeliver | calShot | calPoint
    | calFit | lcStopCapture | lcStopComp | lcRelease => cases h

theorem encode_of_decode {w : Word} {i : Instr} (h : decode w = .ok i) : encode i = some w := by
  obtain ⟨hrsv, ⟨hopc, rfl⟩ | ⟨hplain, hch⟩⟩ := decode_eq_ok_iff.mp h
  · rw [encode, ← hopc, commandWord_eq hrsv]
  · rw [plainCommand_encodes hplain, ← hch, commandWord_eq hrsv]

/-- A command has no operand to bound: that of `rb.push` belongs to no word. -/
theorem wellFormed_of_encode {i : Instr} {w : Word} (h : encode i = some w) : i.wellFormed = true := by
  cases i with
  | rbPush x => cases h
  | _ => rfl

/-- Settles O3: `encode_of_decode`, and a command is well formed. -/
theorem encodeDecode : Obligations.EncodeDecode :=
  fun _ _ h => ⟨encode_of_decode h, wellFormed_of_encode (encode_of_decode h)⟩

/-! ## The opcode map -/

/-- The row of a command that takes no channel: every bit of the word is fixed. -/
def plainRow (opc : BitVec 8) (i : Instr) : OpcodeRow := ⟨i.mnemonic, commandWord opc 0#4, BitVec.allOnes 32⟩

/-- The row of `cal.start`: `CH` is free. -/
def calStartRow : OpcodeRow := ⟨"cal.start", 0x00000020#32, 0xFFFFF0FF#32⟩

theorem plainRow_mem {opc : BitVec 8} {i : Instr} (h : plainCommand opc = some i) : plainRow opc i ∈ opcodeMap := by
  unfold plainCommand at h
  split_ifs at h <;> cases h <;> subst opc <;> decide

/-- The rows of the opcode map (spec/30_encoding.md R88) are those of the commands `decode` knows. -/
theorem mem_opcodeMap_iff {row : OpcodeRow} :
    row ∈ opcodeMap ↔ row = calStartRow ∨ ∃ opc i, plainCommand opc = some i ∧ row = plainRow opc i := by
  constructor
  · intro h
    simp only [opcodeMap, List.mem_cons, List.not_mem_nil, or_false] at h
    rcases h with rfl | rfl | rfl | rfl | rfl | rfl | rfl | rfl | rfl
    · exact .inr ⟨opcNop, _, rfl, rfl⟩
    · exact .inr ⟨opcTvNorm, _, rfl, rfl⟩
    · exact .inr ⟨opcTvAdd, _, rfl, rfl⟩
    · exact .inr ⟨opcTvSub, _, rfl, rfl⟩
    · exact .inr ⟨opcTvP2t, _, rfl, rfl⟩
    · exact .inr ⟨opcTvT2p, _, rfl, rfl⟩
    · exact .inr ⟨opcDevOpen, _, rfl, rfl⟩
    · exact .inr ⟨opcDevClose, _, rfl, rfl⟩
    · exact .inl rfl
  · rintro (rfl | ⟨opc, i, h, rfl⟩)
    · decide
    · exact plainRow_mem h

/-- No two rows share a name. -/
theorem opcodeMap_mnemonics_nodup : (opcodeMap.map OpcodeRow.mnemonic).Nodup := by decide

theorem row_eq_of_mnemonic {a b : OpcodeRow} (ha : a ∈ opcodeMap) (hb : b ∈ opcodeMap) (h : a.mnemonic = b.mnemonic) :
    a = b :=
  List.inj_on_of_nodup_map opcodeMap_mnemonics_nodup ha hb h

/-- Words are equal field by field. -/
theorem word_eq_iff {v w : Word} : v = w ↔ wordRsv v = wordRsv w ∧ wordCh v = wordCh w ∧ wordOpc v = wordOpc w := by
  constructor
  · rintro rfl
    exact ⟨rfl, rfl, rfl⟩
  · rintro ⟨hrsv, hch, hopc⟩
    rw [← word_eq_fields v, ← word_eq_fields w, hrsv, hch, hopc]

/-- A mask acts on each field of a word by itself. -/
theorem and_eq_iff_fields {w m p : Word} :
    w &&& m = p ↔ wordRsv w &&& wordRsv m = wordRsv p ∧ wordCh w &&& wordCh m = wordCh p ∧
      wordOpc w &&& wordOpc m = wordOpc p := by
  rw [word_eq_iff]
  simp only [wordRsv, wordCh, wordOpc, BitVec.extractLsb'_and]

theorem calStartRow_selects_iff {w : Word} :
    w &&& calStartRow.mask = calStartRow.pattern ↔ wordRsv w = 0#20 ∧ wordOpc w = opcCalStart := by
  have hrsv : wordRsv calStartRow.mask = BitVec.allOnes 20 ∧ wordRsv calStartRow.pattern = 0#20 := by decide
  have hch : wordCh calStartRow.mask = 0#4 ∧ wordCh calStartRow.pattern = 0#4 := by decide
  have hopc : wordOpc calStartRow.mask = BitVec.allOnes 8 ∧ wordOpc calStartRow.pattern = opcCalStart := by decide
  simp only [and_eq_iff_fields, hrsv, hch, hopc, BitVec.and_allOnes, BitVec.and_zero, true_and]

/-- A word that decodes is selected by a row of the map with the name of its instruction. -/
theorem decode_row {w : Word} {i : Instr} (h : decode w = .ok i) :
    ∃ row ∈ opcodeMap, row.mnemonic = i.mnemonic ∧ w &&& row.mask = row.pattern := by
  obtain ⟨hrsv, ⟨hopc, rfl⟩ | ⟨hplain, hch⟩⟩ := decode_eq_ok_iff.mp h
  · exact ⟨calStartRow, mem_opcodeMap_iff.mpr (.inl rfl), rfl, calStartRow_selects_iff.mpr ⟨hrsv, hopc⟩⟩
  · refine ⟨plainRow (wordOpc w) i, plainRow_mem hplain, rfl, ?_⟩
    rw [plainRow, BitVec.and_allOnes, ← hch, commandWord_eq hrsv]

/-- A word that a row selects decodes to an instruction of the row's name. -/
theorem row_decodes {row : OpcodeRow} (hrow : row ∈ opcodeMap) {w : Word} (h : w &&& row.mask = row.pattern) :
    ∃ i, decode w = .ok i ∧ i.mnemonic = row.mnemonic := by
  obtain rfl | ⟨opc, i, hplain, rfl⟩ := mem_opcodeMap_iff.mp hrow
  · obtain ⟨hrsv, hopc⟩ := calStartRow_selects_iff.mp h
    exact ⟨_, decode_eq_ok_iff.mpr ⟨hrsv, .inl ⟨hopc, rfl⟩⟩, rfl⟩
  · rw [plainRow, BitVec.and_allOnes] at h
    exact ⟨i, h ▸ decode_plainWord hplain, rfl⟩

/-- A row selects exactly the words of its command (spec/30_encoding.md R88). -/
theorem row_selects_iff {row : OpcodeRow} (hrow : row ∈ opcodeMap) (w : Word) :
    (∃ i, decode w = .ok i ∧ i.mnemonic = row.mnemonic) ↔ w &&& row.mask = row.pattern := by
  constructor
  · rintro ⟨i, hi, hname⟩
    obtain ⟨row', hrow', hname', hsel⟩ := decode_row hi
    rwa [row_eq_of_mnemonic hrow' hrow (hname'.trans hname)] at hsel
  · exact row_decodes hrow

/-- No word selects two rows: it decodes to one instruction at most, which has one name. -/
theorem row_eq_of_selects {a b : OpcodeRow} (ha : a ∈ opcodeMap) (hb : b ∈ opcodeMap) {w : Word}
    (hwa : w &&& a.mask = a.pattern) (hwb : w &&& b.mask = b.pattern) : a = b := by
  obtain ⟨i, hi, hia⟩ := row_decodes ha hwa
  obtain ⟨j, hj, hjb⟩ := row_decodes hb hwb
  obtain rfl : i = j := Except.ok.inj (hi.symm.trans hj)
  exact row_eq_of_mnemonic ha hb (hia.symm.trans hjb)

theorem decode_calStart_channel {w : Word} {ch : BitVec 4} (h : decode w = .ok (.calStart ch)) : ch = wordCh w := by
  obtain rfl : commandWord opcCalStart ch = w := Option.some.inj (encode_of_decode h)
  obtain ⟨-, hch, -⟩ := commandWord_fields opcCalStart ch
  exact hch.symm

/-- Settles O4: `row_selects_iff`; rows that one word selects are one row (`row_eq_of_selects`), and the rows of the map
differ. -/
theorem opcodeMapSelects : Obligations.OpcodeMapSelects := by
  refine ⟨fun row hrow w => row_selects_iff hrow w, ?disjoint, fun w ch h => ?channel⟩
  case disjoint =>
    have hdistinct : opcodeMap.Pairwise (· ≠ ·) := opcodeMap_mnemonics_nodup.of_map
    exact hdistinct.imp_of_mem fun ha hb hne w hsel => hne (row_eq_of_selects ha hb hsel.1 hsel.2)
  case channel =>
    obtain ⟨-, hch, -⟩ := wordFields_toNat w
    rw [decode_calStart_channel h, hch]

/-- The names of the internal operations stand in no row of the map (spec/30_encoding.md R95). -/
theorem mnemonic_ne_of_encode_none {i : Instr} (h : encode i = none) :
    ∀ row ∈ opcodeMap, row.mnemonic ≠ i.mnemonic := by
  cases i with
  | nop | tvNorm | tvAdd | tvSub | tvP2t | tvT2p | devOpen | devClose | calStart => cases h
  | rbNew | rbPush | rbPop | capTick | capIrq | capDrainStep | capDrainFinish | capDeliver | calShot | calPoint
    | calFit | lcStopCapture | lcStopComp | lcRelease => simp [opcodeMap, Instr.mnemonic]

/-- Settles O2: `decode_of_encode`; a command's row is that of its word (`decode_row`), and an internal operation has
none. -/
theorem decodeEncode : Obligations.DecodeEncode := by
  refine ⟨fun i w _ h => decode_of_encode h, fun i => ⟨fun h => ?hasRow, fun ⟨row, hrow, hname⟩ => ?hasWord⟩⟩
  case hasRow =>
    obtain ⟨w, hw⟩ := Option.isSome_iff_exists.mp h
    obtain ⟨row, hrow, hname, -⟩ := decode_row (decode_of_encode hw)
    exact ⟨row, hrow, hname⟩
  case hasWord =>
    cases hw : encode i with
    | some w => rfl
    | none => exact absurd hname (mnemonic_ne_of_encode_none hw row hrow)

/-- Settles O1: a command by its encoding, a reserved word by the decoder. -/
theorem decodeSampleWords : Obligations.DecodeSampleWords :=
  ⟨decode_of_encode rfl, decode_of_encode rfl, decode_of_encode rfl, decode_of_encode rfl, decode_of_encode rfl,
    decode_of_encode rfl, decode_of_encode rfl, decode_of_encode rfl, by decide, by decide, by decide⟩

/-! ## Words that spell no command -/

/-- The operation codes that take no channel, as ranges (spec/30_encoding.md R90). -/
theorem exists_plainCommand_iff {opc : BitVec 8} :
    (∃ i, plainCommand opc = some i) ↔ opc.toNat ≤ 5 ∨ opc.toNat = 0x10 ∨ opc.toNat = 0x11 := by
  simp only [plainCommand, ← BitVec.toNat_inj, BitVec.toNat_ofNat]
  split_ifs <;> simp <;> omega

/-- Which words decode, in the numbers of the fields (spec/30_encoding.md R87). -/
theorem exists_decode_iff {w : Word} :
    (∃ i, decode w = .ok i) ↔ w.toNat / 4096 = 0 ∧ (w.toNat % 256 = 0x20 ∨
      (w.toNat % 256 ≤ 5 ∨ w.toNat % 256 = 0x10 ∨ w.toNat % 256 = 0x11) ∧ w.toNat / 256 % 16 = 0) := by
  obtain ⟨hopc, hch, hrsv⟩ := wordFields_toNat w
  simp [decode_eq_ok_iff, exists_or, exists_plainCommand_iff, ← BitVec.toNat_inj, hopc, hch, hrsv]

/-- The step of a host write to `CMD` of a word that spells no command (spec/60_exceptions.md R244). -/
theorem step_hostWrite_illegal {s : State} {rest : List Event} {w : Word} (hd : ¬ ∃ i, decode w = .ok i)
    (hs : s.sched = .hostWrite 0x004 w :: rest) :
    step s = .next { s with sched := rest, cmd := w, errCode := .illegal, errOp := wordOpc w } := by
  have hc : csrAt 0x004 = some .cmd := csrAt_offset .cmd
  cases hw : decode w with
  | ok i => exact absurd ⟨i, hw⟩ hd
  | error e => simp [step_of_sched_cons hs, eventStep, hostWrite, hc, hw, writeCsr, State.illegal, State.setErr]

/-- Settles O5: the reserved words are those that do not decode (`exists_decode_iff`), and their step is
`step_hostWrite_illegal`; `nop` has one word. -/
theorem illegalWordsReportIllegal : Obligations.IllegalWordsReportIllegal := by
  intro w opc ch rsv reserved
  have hreserved : reserved ↔ ¬ ∃ i, decode w = .ok i := by
    rw [exists_decode_iff]
    omega
  refine ⟨fun h s rest hs => ?illegal, fun h => not_not.mp (hreserved.not.mp h), fun h => ?nop, fun h => ?zero⟩
  case illegal =>
    obtain ⟨hopc, -, -⟩ := wordFields_toNat w
    have hop : wordOpc w = BitVec.ofNat 8 opc := by
      rw [← BitVec.toNat_inj, hopc, BitVec.toNat_ofNat, Nat.mod_mod]
    rw [step_hostWrite_illegal (hreserved.mp h) hs, hop]
  case nop => exact (Option.some.inj (encode_of_decode h)).symm
  case zero => exact h ▸ decode_of_encode rfl

/-! ## The agents -/

theorem calibratorOp_shotsLeft {s : State} (hphase : s.cal.phase = .bias ∨ s.cal.phase = .search)
    (hleft : s.cal.shotCount.toNat < s.cal.nL.toNat) : calibratorOp s = .calShot := by
  rcases hphase with hphase | hphase <;> simp [calibratorOp, hphase, hleft]

theorem calibratorOp_shotsTaken {s : State} (hphase : s.cal.phase = .bias ∨ s.cal.phase = .search)
    (htaken : s.cal.shotCount.toNat = s.cal.nL.toNat) : calibratorOp s = .calPoint := by
  rcases hphase with hphase | hphase <;> simp [calibratorOp, hphase, htaken]

theorem calibratorOp_fit {s : State} (hphase : s.cal.phase = .fit) : calibratorOp s = .calFit := by
  simp [calibratorOp, hphase]

theorem step_drainer {s : State} {rest : List Event} (hs : s.sched = .drainer :: rest) :
    step s = exec (drainerOp s) { s with sched := rest } :=
  step_of_sched_cons hs

theorem step_calibrator {s : State} {rest : List Event} (hs : s.sched = .calibrator :: rest) :
    step s = exec (calibratorOp s) { s with sched := rest } :=
  step_of_sched_cons hs

theorem step_lifecycle {s : State} {rest : List Event} {i : Instr} (hs : s.sched = .lifecycle :: rest)
    (hi : lifecycleOp s = some i) : step s = exec i { s with sched := rest } := by
  have hop : lifecycleOp { s with sched := rest } = some i := hi
  simp [step_of_sched_cons hs, eventStep, hop]

/-- Settles O7: an agent's step runs the operation that `drainerOp`, `calibratorOp` or `lifecycleOp` names. -/
theorem agentsRunTheirOperations : Obligations.AgentsRunTheirOperations := by
  refine fun s rest => ⟨fun hs => step_of_sched_cons hs, fun hs => step_of_sched_cons hs, fun hs => ?drainer,
    fun hs => ?calibrator, fun hs => ?lifecycle⟩
  case drainer =>
    rw [step_drainer hs, drainerOp]
    exact ⟨fun hdr => by rw [hdr], fun hdr => by rw [hdr], fun hdr => by rw [hdr]⟩
  case calibrator =>
    rw [step_calibrator hs]
    exact ⟨fun hphase hleft => by rw [calibratorOp_shotsLeft hphase hleft],
      fun hphase htaken => by rw [calibratorOp_shotsTaken hphase htaken], fun hphase => by rw [calibratorOp_fit hphase]⟩
  case lifecycle =>
    exact ⟨fun hp => step_lifecycle hs (by rw [lifecycleOp, hp]), fun hp => step_lifecycle hs (by rw [lifecycleOp, hp]),
      fun hp => step_lifecycle hs (by rw [lifecycleOp, hp])⟩

end Sys2Proof.Machine
end

section
/-! PROOFS. The functions of the TimeValue unit in exact arithmetic: what `Normalize`, `Add`, `Sub`, `P2T` and `T2P` return,
that they are closed under the normalized times, and the laws of the round trips (spec/40_timevalue.md R111 to R125). -/

namespace Sys2Proof.Machine

/-! ## The operand domains and the wraps -/

theorem isNormalized_iff {t : TimeValue} :
    isNormalized t = true ↔ t.coarse.toNat < 125000000 ∧ t.frac.toNat < 4096 := by
  simp [isNormalized]

theorem isRaw_iff {x : TimeValue} : x.isRaw = true ↔ x.coarse.toNat < 2 ^ 28 ∧ x.frac.toNat < 4096 := by
  simp [TimeValue.isRaw]

theorem outsideS64_eq (z : Int) : outsideS64 z = decide (z < -2 ^ 63 ∨ 2 ^ 63 ≤ z) := by
  simp [outsideS64]

/-- Wrapping loses a multiple of 2^64 (spec/00_scope.md R10). -/
theorem toInt_ofInt_congr (z : Int) : ∃ k : Int, (BitVec.ofInt 64 z).toInt = z + k * 2 ^ 64 := by
  rw [BitVec.toInt_ofInt]
  exact ⟨-z.bdiv (2 ^ 64), (Int.bmod_eq_self_sub_bdiv_mul ..).trans (by ring)⟩

theorem toInt_bounds (v : BitVec 64) : -2 ^ 63 ≤ v.toInt ∧ v.toInt < 2 ^ 63 :=
  ⟨BitVec.le_toInt v, BitVec.toInt_lt⟩

/-- A value of `s64` is its own wrap, and wrapping gives values of `s64` only. -/
theorem toInt_ofInt_eq_iff {z : Int} : (BitVec.ofInt 64 z).toInt = z ↔ -2 ^ 63 ≤ z ∧ z < 2 ^ 63 := by
  have hb := toInt_bounds (BitVec.ofInt 64 z)
  obtain ⟨k, hk⟩ := toInt_ofInt_congr z
  omega

/-- Subtracting takes a wrapped addition back. -/
theorem wrapS64_add_sub (v : BitVec 64) (d : Int) : wrapS64 ((wrapS64 (v.toInt + d)).toInt - d) = v := by
  simp only [wrapS64, Int.sub_eq_add_neg, BitVec.ofInt_add, BitVec.ofInt_neg, BitVec.ofInt_toInt, ← BitVec.sub_eq_add_neg,
    BitVec.add_sub_cancel]

/-! ## Normalize -/

/-- The three branches of `Normalize` (spec/40_timevalue.md R114). -/
theorem normalizeCoarse_cases (c : Nat) (u : Int) :
    (2 ^ 27 ≤ c ∧ normalizeCoarse c u = ((c + 125000000) % 2 ^ 28, u - 1)) ∨
      (c < 2 ^ 27 ∧ 125000000 ≤ c ∧ normalizeCoarse c u = (c - 125000000, u + 1)) ∨
      (c < 2 ^ 27 ∧ c < 125000000 ∧ normalizeCoarse c u = (c, u)) := by
  unfold normalizeCoarse
  split
  · exact .inl ⟨‹_›, rfl⟩
  · split
    · exact .inr (.inl ⟨Nat.lt_of_not_le ‹_›, ‹_›, rfl⟩)
    · exact .inr (.inr ⟨Nat.lt_of_not_le ‹_›, Nat.lt_of_not_le ‹_›, rfl⟩)

/-- The normalized coarse count fits in the 28 bits of a raw one, so its register holds it unwrapped. -/
theorem timeNormalize_coarse {x : TimeValue} (hx : x.isRaw = true) :
    (timeNormalize x).val.coarse.toNat = (normalizeCoarse x.coarse.toNat x.utc.toInt).1 := by
  have hraw := (isRaw_iff.mp hx).1
  refine (BitVec.toNat_ofNat ..).trans (Nat.mod_eq_of_lt ?_)
  rcases normalizeCoarse_cases x.coarse.toNat x.utc.toInt with ⟨-, h⟩ | ⟨-, -, h⟩ | ⟨-, -, h⟩ <;> rw [h] <;> omega

theorem timeNormalize_nr (x : TimeValue) :
    (timeNormalize x).nr = decide (125000000 ≤ (normalizeCoarse x.coarse.toNat x.utc.toInt).1) := rfl

/-- The range band (spec/40_timevalue.md R115). -/
theorem timeNormalize_nr_iff {x : TimeValue} (hx : x.isRaw = true) :
    (timeNormalize x).nr = true ↔ 0x8000000 ≤ x.coarse.toNat ∧ x.coarse.toNat < 0x88CA6C0 := by
  have hraw := (isRaw_iff.mp hx).1
  rw [timeNormalize_nr, decide_eq_true_iff]
  rcases normalizeCoarse_cases x.coarse.toNat x.utc.toInt with ⟨hc, h⟩ | ⟨hc, hm, h⟩ | ⟨hc, hm, h⟩ <;> rw [h] <;> omega

/-- The range bit says exactly whether the result is normalized (spec/40_timevalue.md R115). -/
theorem timeNormalize_isNormalized {x : TimeValue} (hx : x.isRaw = true) :
    isNormalized (timeNormalize x).val = !(timeNormalize x).nr := by
  have hc := timeNormalize_coarse hx
  have hf : (timeNormalize x).val.frac.toNat < 4096 := (isRaw_iff.mp hx).2
  rw [Bool.eq_iff_iff, isNormalized_iff, hc, Bool.not_eq_true', timeNormalize_nr, decide_eq_false_iff_not, Nat.not_le]
  exact and_iff_left hf

/-- In the band the coarse count is too large (spec/40_timevalue.md R115). -/
theorem timeNormalize_band_coarse {x : TimeValue} (hx : x.isRaw = true) (hnr : (timeNormalize x).nr = true) :
    259217728 ≤ (timeNormalize x).val.coarse.toNat ∧ (timeNormalize x).val.coarse.toNat ≤ 268435455 := by
  have hband := (timeNormalize_nr_iff hx).mp hnr
  rw [timeNormalize_coarse hx]
  rcases normalizeCoarse_cases x.coarse.toNat x.utc.toInt with ⟨hc, h⟩ | ⟨hc, hm, h⟩ | ⟨hc, hm, h⟩ <;> rw [h] <;> omega

/-! ## Add and Sub -/

theorem carry_spec {m z : Nat} (h : z < 2 * m) :
    ∃ f k : Nat, carry m z = (f, k) ∧ f < m ∧ k ≤ 1 ∧ z = f + m * k := by
  unfold carry
  split
  · exact ⟨z - m, 1, rfl, by omega, by omega, by omega⟩
  · exact ⟨z, 0, rfl, by omega, by omega, by omega⟩

theorem borrow_spec {m : Nat} {z : Int} (hl : -m ≤ z) (hu : z < m) :
    ∃ f b : Nat, borrow m z = (↑f, ↑b) ∧ f < m ∧ b ≤ 1 ∧ z + m * b = f := by
  unfold borrow
  split
  · exact ⟨(z + m).toNat, 1, by simp; omega, by omega, by omega, by omega⟩
  · exact ⟨z.toNat, 0, by simp; omega, by omega, by omega, by omega⟩

/-- `Add` with its carries (spec/40_timevalue.md R117). -/
theorem timeAdd_spec {a b : TimeValue} (ha : isNormalized a = true) (hb : isNormalized b = true) :
    ∃ f c k1 k2 : Nat, k1 ≤ 1 ∧ k2 ≤ 1 ∧ f < 4096 ∧ c < 125000000 ∧
      a.frac.toNat + b.frac.toNat = f + 4096 * k1 ∧ a.coarse.toNat + b.coarse.toNat + k1 = c + 125000000 * k2 ∧
      timeAdd a b =
        { val := ⟨wrapS64 (a.utc.toInt + b.utc.toInt + k2), BitVec.ofNat 32 c, BitVec.ofNat 16 f, a.channel, a.seq⟩
          ov := outsideS64 (a.utc.toInt + b.utc.toInt + k2)
          nr := false } := by
  obtain ⟨hac, haf⟩ := isNormalized_iff.mp ha
  obtain ⟨hbc, hbf⟩ := isNormalized_iff.mp hb
  obtain ⟨f, k1, hf, hflt, hk1, hfsum⟩ := carry_spec (m := 4096) (z := a.frac.toNat + b.frac.toNat) (by omega)
  obtain ⟨c, k2, hc, hclt, hk2, hcsum⟩ :=
    carry_spec (m := 125000000) (z := a.coarse.toNat + b.coarse.toNat + k1) (by omega)
  exact ⟨f, c, k1, k2, hk1, hk2, hflt, hclt, hfsum, hcsum, by simp only [timeAdd, hf, hc]⟩

/-- `Sub` with its borrows (spec/40_timevalue.md R119). -/
theorem timeSub_spec {a b : TimeValue} (ha : isNormalized a = true) (hb : isNormalized b = true) :
    ∃ f c b1 b2 : Nat, b1 ≤ 1 ∧ b2 ≤ 1 ∧ f < 4096 ∧ c < 125000000 ∧
      a.frac.toNat + 4096 * b1 = b.frac.toNat + f ∧ a.coarse.toNat + 125000000 * b2 = b.coarse.toNat + b1 + c ∧
      timeSub a b =
        { val := ⟨wrapS64 (a.utc.toInt - b.utc.toInt - b2), BitVec.ofNat 32 c, BitVec.ofNat 16 f, a.channel, a.seq⟩
          ov := outsideS64 (a.utc.toInt - b.utc.toInt - b2)
          nr := false } := by
  obtain ⟨hac, haf⟩ := isNormalized_iff.mp ha
  obtain ⟨hbc, hbf⟩ := isNormalized_iff.mp hb
  obtain ⟨f, b1, hf, hflt, hb1, hfdiff⟩ :=
    borrow_spec (m := 4096) (z := (a.frac.toNat : Int) - b.frac.toNat) (by omega) (by omega)
  obtain ⟨c, b2, hc, hclt, hb2, hcdiff⟩ :=
    borrow_spec (m := 125000000) (z := (a.coarse.toNat : Int) - b.coarse.toNat - b1) (by omega) (by omega)
  exact ⟨f, c, b1, b2, hb1, hb2, hflt, hclt, by omega, by omega,
    by simp only [timeSub, hf, hc, BitVec.ofInt_natCast]⟩

/-- A time made of a cycle count and a fraction in range is normalized. -/
theorem isNormalized_mk {u : BitVec 64} {c f : Nat} {ch : BitVec 8} {q : BitVec 16} (hc : c < 125000000) (hf : f < 4096) :
    isNormalized ⟨u, BitVec.ofNat 32 c, BitVec.ofNat 16 f, ch, q⟩ = true := by
  rw [isNormalized_iff, BitVec.toNat_ofNat, BitVec.toNat_ofNat]
  omega

/-- Closure of `Add` (spec/40_timevalue.md R125, law 1). -/
theorem timeAdd_isNormalized {a b : TimeValue} (ha : isNormalized a = true) (hb : isNormalized b = true) :
    isNormalized (timeAdd a b).val = true := by
  obtain ⟨f, c, k1, k2, -, -, hf, hc, -, -, h⟩ := timeAdd_spec ha hb
  rw [h]
  exact isNormalized_mk hc hf

/-- Closure of `Sub` (spec/40_timevalue.md R125, law 1). -/
theorem timeSub_isNormalized {a b : TimeValue} (ha : isNormalized a = true) (hb : isNormalized b = true) :
    isNormalized (timeSub a b).val = true := by
  obtain ⟨f, c, b1, b2, -, -, hf, hc, -, -, h⟩ := timeSub_spec ha hb
  rw [h]
  exact isNormalized_mk hc hf

/-- The round-trip law (spec/40_timevalue.md R125, law 2): the borrows of the subtraction are the carries of the sum. -/
theorem timeSub_timeAdd {a b : TimeValue} (ha : isNormalized a = true) (hb : isNormalized b = true) :
    (timeSub (timeAdd a b).val b).val = a := by
  have hsum := timeAdd_isNormalized ha hb
  obtain ⟨hac, haf⟩ := isNormalized_iff.mp ha
  obtain ⟨f, c, k1, k2, hk1, hk2, hf, hc, hfsum, hcsum, hadd⟩ := timeAdd_spec ha hb
  obtain ⟨g, d, b1, b2, hb1, hb2, hg, hd, hgdiff, hddiff, hsub⟩ := timeSub_spec hsum hb
  rw [hsub]
  rw [hadd] at hgdiff hddiff ⊢
  rw [BitVec.toNat_ofNat, Nat.mod_eq_of_lt (by omega)] at hgdiff hddiff
  have hborrow : b1 = k1 := by omega
  have hfrac : g = a.frac.toNat := by omega
  have hcarry : b2 = k2 := by omega
  have hcoarse : d = a.coarse.toNat := by omega
  rw [hcarry, Int.add_assoc, Int.sub_sub, wrapS64_add_sub, hfrac, hcoarse, BitVec.ofNat_toNat, BitVec.ofNat_toNat,
    BitVec.setWidth_eq, BitVec.setWidth_eq]

/-! ## The picosecond conversions -/

/-- `P2T` is floor division into seconds, cycles and picoseconds (spec/40_timevalue.md R121). -/
theorem picoToTime_spec (ps : BitVec 64) :
    ∃ (u : Int) (c r : Nat), c < 125000000 ∧ r < 8000 ∧ -9223373 ≤ u ∧ u ≤ 9223373 ∧
      ps.toInt = u * 1000000000000 + c * 8000 + r ∧
      picoToTime ps = ⟨wrapS64 u, BitVec.ofNat 32 c, BitVec.ofNat 16 (r * 4096 / 8000), 0#8, 0#16⟩ := by
  have hb := toInt_bounds ps
  obtain ⟨c, hc⟩ := Int.eq_ofNat_of_zero_le (Int.emod_nonneg (ps.toInt / 8000) (b := 125000000) (by omega))
  obtain ⟨r, hr⟩ := Int.eq_ofNat_of_zero_le (Int.emod_nonneg ps.toInt (b := 8000) (by omega))
  refine ⟨ps.toInt / 8000 / 125000000, c, r, by omega, by omega, by omega, by omega, by omega, ?_⟩
  have hfrac : (r : Int) * 4096 / 8000 = ((r * 4096 / 8000 : Nat) : Int) := by omega
  simp only [picoToTime, Config.psPerCycle, Config.coarseMod, Config.fracMod, Nat.cast_ofNat, hc, hr, hfrac,
    BitVec.ofInt_natCast]

/-- Closure of `P2T` (spec/40_timevalue.md R125, law 1). -/
theorem picoToTime_isNormalized (ps : BitVec 64) : isNormalized (picoToTime ps) = true := by
  obtain ⟨u, c, r, hc, hr, -, -, -, h⟩ := picoToTime_spec ps
  rw [h]
  exact isNormalized_mk hc (by omega)

/-- `T2P` in numerals (spec/40_timevalue.md R123). -/
theorem timeToPicoExact_eq (t : TimeValue) :
    timeToPicoExact t = t.utc.toInt * 1000000000000 +
      (t.coarse.toNat * 8000 + (t.frac.toNat : Int) * 8000 / 4096) := by
  simp [timeToPicoExact, Config.psPerSec, Config.psPerCycle, Config.fracMod, Int.add_assoc]

/-- The picoseconds below a second (spec/40_timevalue.md R124). -/
theorem subsecond_bounds {t : TimeValue} (ht : isNormalized t = true) :
    0 ≤ (t.coarse.toNat * 8000 + (t.frac.toNat : Int) * 8000 / 4096 : Int) ∧
      (t.coarse.toNat * 8000 + (t.frac.toNat : Int) * 8000 / 4096 : Int) < 1000000000000 := by
  obtain ⟨hc, hf⟩ := isNormalized_iff.mp ht
  omega

/-- The loss of a conversion and back (spec/40_timevalue.md R125, laws 3 and 4): at most 2 ps, and none exactly at the
multiples of 125 ps of a cycle. -/
theorem timeToPico_picoToTime (ps : BitVec 64) :
    0 ≤ ps.toInt - timeToPicoExact (picoToTime ps) ∧ ps.toInt - timeToPicoExact (picoToTime ps) ≤ 2 ∧
      (timeToPicoExact (picoToTime ps) = ps.toInt ↔ ps.toInt % 8000 % 125 = 0) := by
  obtain ⟨u, c, r, hc, hr, hl, hu, hps, h⟩ := picoToTime_spec ps
  have hutc : (wrapS64 u).toInt = u := toInt_ofInt_eq_iff.mpr (by omega)
  have hcoarse : c % 2 ^ 32 = c := by omega
  have hfrac : r * 4096 / 8000 % 2 ^ 16 = r * 4096 / 8000 := by omega
  simp only [timeToPicoExact_eq, h, hutc, BitVec.toNat_ofNat, hcoarse, hfrac, hps]
  omega

/-- A value at most 2 below an `s64` wraps to it only if it is that value. -/
theorem ofInt_eq_iff_of_close {ps : BitVec 64} {e : Int} (hl : 0 ≤ ps.toInt - e) (hu : ps.toInt - e ≤ 2) :
    BitVec.ofInt 64 e = ps ↔ e = ps.toInt := by
  constructor
  · rintro rfl
    obtain ⟨k, hk⟩ := toInt_ofInt_congr e
    omega
  · rintro rfl
    exact BitVec.ofInt_toInt

/-- Where `T2P` does not wrap, `P2T` finds the seconds and cycles again, and the fraction exactly when it is a multiple of
64 (spec/40_timevalue.md R125, law 3). -/
theorem picoToTime_timeToPico {t : TimeValue} (ht : isNormalized t = true)
    (hl : -2 ^ 63 ≤ timeToPicoExact t) (hu : timeToPicoExact t < 2 ^ 63) :
    let v := picoToTime (BitVec.ofInt 64 (timeToPicoExact t))
    v.utc = t.utc ∧ v.coarse = t.coarse ∧ (v.frac = t.frac ↔ t.frac.toNat % 64 = 0) := by
  obtain ⟨htc, htf⟩ := isNormalized_iff.mp ht
  obtain ⟨u, c, r, hc, hr, -, -, hps, h⟩ := picoToTime_spec (BitVec.ofInt 64 (timeToPicoExact t))
  rw [toInt_ofInt_eq_iff.mpr ⟨hl, hu⟩, timeToPicoExact_eq] at hps
  have hutc : u = t.utc.toInt := by omega
  have hcoarse : c = t.coarse.toNat := by omega
  have hrest : r = t.frac.toNat * 8000 / 4096 := by omega
  simp only [h]
  refine ⟨by rw [hutc, wrapS64, BitVec.ofInt_toInt], by simp [hcoarse], ?_⟩
  rw [← BitVec.toNat_inj, BitVec.toNat_ofNat, Nat.mod_eq_of_lt (by omega), hrest]
  omega

/-- Settles O21: the loss is `timeToPico_picoToTime`'s, too small to be a wrap; and a time that comes back bounds its
exact picoseconds by those of an `s64`, so it did not wrap, which leaves `picoToTime_timeToPico`. -/
theorem picoRoundTrips : Obligations.PicoRoundTrips := by
  refine ⟨fun ps => ?_, fun t hc hf => ?_⟩
  · obtain ⟨hl, hu, hexact⟩ := timeToPico_picoToTime ps
    exact ⟨hl, hu, (ofInt_eq_iff_of_close hl hu).trans hexact⟩
  · have ht := isNormalized_iff.mpr ⟨hc, hf⟩
    refine ⟨fun ⟨hutc, hcoarse, hfrac⟩ => ?_, fun ⟨hf64, hl, hu⟩ => ?_⟩
    · obtain ⟨hclose, hclose', -⟩ := timeToPico_picoToTime (BitVec.ofInt 64 (timeToPicoExact t))
      have hback : timeToPicoExact (picoToTime (BitVec.ofInt 64 (timeToPicoExact t))) = timeToPicoExact t := by
        rw [timeToPicoExact_eq (picoToTime _), hutc, hcoarse, hfrac, ← timeToPicoExact_eq]
      rw [hback] at hclose hclose'
      have hrange := toInt_ofInt_eq_iff.mp ((ofInt_eq_iff_of_close hclose hclose').mp rfl).symm
      exact ⟨(picoToTime_timeToPico ht hrange.1 hrange.2).2.2.mp hfrac, hrange⟩
    · obtain ⟨hutc, hcoarse, hfrac⟩ := picoToTime_timeToPico ht hl hu
      exact ⟨hutc, hcoarse, hfrac.mpr hf64⟩

end Sys2Proof.Machine
end

section
/-! PROOFS. The TimeValue unit's commands: what each writes and leaves unchanged, by the lemmas about its function
(spec/40_timevalue.md R116, R118, R120, R122, R124). -/

namespace Sys2Proof.Machine

/-! ## One rule per command -/

theorem exec_tvNorm_raw {s : State} (ha : s.tvu.a.isRaw = true) :
    exec .tvNorm s = .next ((s.putTime (timeNormalize s.tvu.a)).setErr .ok 0x01#8) :=
  if_pos ha

theorem exec_tvNorm_domain {s : State} (ha : ¬ s.tvu.a.isRaw = true) :
    exec .tvNorm s = .next (s.setErr .domain 0x01#8) :=
  if_neg ha

theorem exec_tvAdd_normalized {s : State} (ha : isNormalized s.tvu.a = true) (hb : isNormalized s.tvu.b = true) :
    exec .tvAdd s = .next ((s.putTime (timeAdd s.tvu.a s.tvu.b)).setErr .ok 0x02#8) :=
  if_pos (Bool.and_eq_true_iff.mpr ⟨ha, hb⟩)

theorem exec_tvAdd_domain {s : State} (h : ¬ (isNormalized s.tvu.a = true ∧ isNormalized s.tvu.b = true)) :
    exec .tvAdd s = .next (s.setErr .domain 0x02#8) :=
  if_neg (Bool.and_eq_true_iff.not.mpr h)

theorem exec_tvSub_normalized {s : State} (ha : isNormalized s.tvu.a = true) (hb : isNormalized s.tvu.b = true) :
    exec .tvSub s = .next ((s.putTime (timeSub s.tvu.a s.tvu.b)).setErr .ok 0x03#8) :=
  if_pos (Bool.and_eq_true_iff.mpr ⟨ha, hb⟩)

theorem exec_tvSub_domain {s : State} (h : ¬ (isNormalized s.tvu.a = true ∧ isNormalized s.tvu.b = true)) :
    exec .tvSub s = .next (s.setErr .domain 0x03#8) :=
  if_neg (Bool.and_eq_true_iff.not.mpr h)

theorem exec_tvP2t (s : State) :
    exec .tvP2t s =
      .next (({ s with tvu := { s.tvu with r := picoToTime s.tvu.psIn } } : State).setErr .ok 0x04#8) := rfl

theorem exec_tvT2p_normalized {s : State} (ha : isNormalized s.tvu.a = true) :
    exec .tvT2p s =
      .next ((({ s with tvu := { s.tvu with psOut := wrapS64 (timeToPicoExact s.tvu.a) } } : State).noteOvf
        (outsideS64 (timeToPicoExact s.tvu.a))).setErr .ok 0x05#8) :=
  if_pos ha

theorem exec_tvT2p_domain {s : State} (ha : ¬ isNormalized s.tvu.a = true) :
    exec .tvT2p s = .next (s.setErr .domain 0x05#8) :=
  if_neg ha

/-- `R` and the sticky bits after a result that is in range: `ST_NORMRANGE` and the fault stay as they were. -/
theorem putTime_inRange (t : TimeValue) (ov : Bool) (s : State) :
    s.putTime { val := t, ov := ov, nr := false } =
      { s with tvu := { s.tvu with r := t }, sticky := { s.sticky with ovf := s.sticky.ovf || ov } } := by
  simp [State.putTime, State.noteOvf, State.noteNormRange]

/-! ## The commands' statements -/

/-- Settles O14: the branches are `normalizeCoarse_cases`, and bit 27 of a raw count is `coarse_bit27`. -/
theorem tvNormResult : Obligations.TvNormResult := by
  refine ⟨rfl, fun s => ⟨fun hraw => ?raw, fun hraw => exec_tvNorm_domain (isRaw_iff.not.mpr hraw)⟩⟩
  case raw =>
    have hbit := coarse_bit27 hraw.1
    have hclear := hbit.not.trans Nat.not_le
    rw [Bool.not_eq_true] at hclear
    refine ⟨(normalizeCoarse s.tvu.a.coarse.toNat s.tvu.a.utc.toInt).1,
      (normalizeCoarse s.tvu.a.coarse.toNat s.tvu.a.utc.toInt).2, ?branch, ?effect⟩
    case branch =>
      rw [hbit, hclear]
      rcases normalizeCoarse_cases s.tvu.a.coarse.toNat s.tvu.a.utc.toInt with ⟨hc, h⟩ | ⟨hc, hm, h⟩ | ⟨hc, hm, h⟩ <;>
        rw [h]
      · exact .inl ⟨hc, rfl, rfl⟩
      · exact .inr (.inl ⟨hc, hm, rfl, rfl⟩)
      · exact .inr (.inr ⟨hc, hm, rfl, rfl⟩)
    case effect =>
      rw [exec_tvNorm_raw (isRaw_iff.mpr hraw), ← outsideS64_eq]
      rfl

/-- Settles O15: `timeNormalize_nr_iff` is the band, and a result of `Normalize` is normalized exactly outside it. -/
theorem normalizeRangeBand : Obligations.NormalizeRangeBand := by
  intro s hc hf band
  have hraw := isRaw_iff.mpr ⟨hc, hf⟩
  have hnormal := timeNormalize_isNormalized hraw
  refine ⟨_, exec_tvNorm_raw hraw, fun hband => ?inside, fun hband => ?outside⟩
  case inside =>
    have hnr := (timeNormalize_nr_iff hraw).mpr hband
    rw [hnr] at hnormal
    obtain ⟨hlow, hhigh⟩ := timeNormalize_band_coarse hraw hnr
    refine ⟨by simp [hnr], by simp [hnr], hlow, hhigh, fun v hv => ?_⟩
    have ha : ¬ isNormalized v.tvu.a = true := by simp [hv, hnormal]
    exact ⟨exec_tvAdd_domain fun h => ha h.1, exec_tvSub_domain fun h => ha h.1, exec_tvT2p_domain ha⟩
  case outside =>
    have hnr := Bool.eq_false_iff.mpr ((timeNormalize_nr_iff hraw).not.mpr hband)
    rw [hnr] at hnormal
    exact ⟨by simp [hnr], by simp [hnr], isNormalized_iff.mp hnormal⟩

/-- Settles O16: the carries are `timeAdd_spec`'s. -/
theorem tvAddResult : Obligations.TvAddResult := by
  refine ⟨rfl, fun s => ⟨fun ⟨hna, hnb⟩ => ?normal, fun hn => exec_tvAdd_domain ?domain⟩⟩
  case normal =>
    have ha := isNormalized_iff.mpr hna
    have hb := isNormalized_iff.mpr hnb
    obtain ⟨f, c, k1, k2, hk1, hk2, hf, hc, hfsum, hcsum, hadd⟩ := timeAdd_spec ha hb
    refine ⟨f, c, k1, k2, _, hk1, hk2, hf, hc, hfsum, hcsum, rfl, ?_⟩
    rw [exec_tvAdd_normalized ha hb, hadd, putTime_inRange, outsideS64_eq]
    rfl
  case domain => rwa [isNormalized_iff, isNormalized_iff]

/-- Settles O17: the borrows are `timeSub_spec`'s. -/
theorem tvSubResult : Obligations.TvSubResult := by
  refine ⟨rfl, fun s => ⟨fun ⟨hna, hnb⟩ => ?normal, fun hn => exec_tvSub_domain ?domain⟩⟩
  case normal =>
    have ha := isNormalized_iff.mpr hna
    have hb := isNormalized_iff.mpr hnb
    obtain ⟨f, c, b1, b2, hb1, hb2, hf, hc, hfdiff, hcdiff, hsub⟩ := timeSub_spec ha hb
    refine ⟨f, c, b1, b2, _, hb1, hb2, hf, hc, hfdiff, hcdiff, rfl, ?_⟩
    rw [exec_tvSub_normalized ha hb, hsub, putTime_inRange, outsideS64_eq]
    rfl
  case domain => rwa [isNormalized_iff, isNormalized_iff]

/-- Settles O18: the division is `picoToTime_spec`'s. -/
theorem tvP2tResult : Obligations.TvP2tResult := by
  refine ⟨rfl, fun s => ?_⟩
  obtain ⟨u, c, r, hc, hr, hl, hu, hps, h⟩ := picoToTime_spec s.tvu.psIn
  refine ⟨u, c, r, hc, hr, hl, hu, hps, by omega, ?_⟩
  rw [exec_tvP2t, h]
  rfl

/-- When the exact picoseconds leave `s64`, by the seconds and the picoseconds below a second
(spec/40_timevalue.md R124). -/
theorem outsideS64_seconds {u x : Int} (h0 : 0 ≤ x) (h1 : x < 1000000000000) :
    outsideS64 (u * 1000000000000 + x) = decide (9223373 ≤ u ∨ u ≤ -9223374 ∨
      (u = 9223372 ∧ 36854775808 ≤ x) ∨ (u = -9223373 ∧ x < 963145224192)) := by
  rw [outsideS64_eq, decide_eq_decide]
  omega

/-- Settles O19: the value is `timeToPicoExact_eq`, its overflow `outsideS64_seconds`. -/
theorem tvT2pResult : Obligations.TvT2pResult := by
  refine ⟨rfl, fun s => ⟨fun hn => ?normal, fun hn => exec_tvT2p_domain (isNormalized_iff.not.mpr hn)⟩⟩
  case normal =>
    have ha := isNormalized_iff.mpr hn
    obtain ⟨h0, h1⟩ := subsecond_bounds ha
    refine ⟨h0, h1, ?_⟩
    rw [exec_tvT2p_normalized ha, timeToPicoExact_eq, outsideS64_seconds h0 h1]
    rfl

/-- Settles O20: outside the band the law is `timeSub_timeAdd`; in it the sample is not normalized and `tv.add` refuses
it. -/
theorem roundTripLaw : Obligations.RoundTripLaw := by
  intro s x hc hf hsample hbc hbf
  have hnormal := timeNormalize_isNormalized (isRaw_iff.mpr ⟨hc, hf⟩)
  rw [← hsample] at hnormal
  have hb := isNormalized_iff.mpr ⟨hbc, hbf⟩
  refine ⟨fun hnr => ?inRange, fun hnr => exec_tvAdd_domain ?refused⟩
  case inRange =>
    have ha : isNormalized s.tvu.a = true := by rw [hnormal, hnr]; rfl
    exact ⟨_, _, exec_tvAdd_normalized ha hb, exec_tvSub_normalized (timeAdd_isNormalized ha hb) hb,
      timeSub_timeAdd ha hb⟩
  case refused => simp [hnormal, hnr]

end Sys2Proof.Machine
end

section
/-! PROOFS. The times the block produces, in `R` and in the output stream: which instructions write them, and that every
step keeps them normalized unless it takes the fault of the range band (spec/40_timevalue.md R115, R125 law 1, log 4). -/

namespace Sys2Proof.Machine

/-! ## What a step does to the times -/

/-- `R`, the output stream and the range fault are the same in both states. -/
structure SameTimes (s t : State) : Prop where
  result : t.tvu.r = s.tvu.r
  out : t.capt.out = s.capt.out
  fault : t.rangeFault = s.rangeFault

theorem SameTimes.refl (s : State) : SameTimes s s := ⟨rfl, rfl, rfl⟩

theorem SameTimes.trans {s t u : State} (h : SameTimes s t) (k : SameTimes t u) : SameTimes s u :=
  ⟨k.result.trans h.result, k.out.trans h.out, k.fault.trans h.fault⟩

theorem SameBlock.sameTimes {s t : State} (h : SameBlock s t) : SameTimes s t :=
  ⟨congrArg TvuRegs.r h.tvu, congrArg Capture.out h.capt, h.rangeFault⟩

/-- A record that is not flagged `NR` and holds a normalized time (spec/40_timevalue.md R115). -/
def OutRec.inRange (r : OutRec) : Prop :=
  r.flags.getLsbD 0 = false ∧ r.coarse.toNat < 125000000 ∧ r.frac.toNat < 4096

/-- Every time that is new after a step is normalized, or the step has taken the fault, and a record of such a time is
flagged `NR`; a fault taken stays taken (log 4). -/
structure TimesKept (s t : State) : Prop where
  result : t.tvu.r = s.tvu.r ∨ isNormalized t.tvu.r = true ∨ t.rangeFault = true
  stream : ∀ r ∈ t.capt.out,
    r ∈ s.capt.out ∨ r.inRange ∨ (r.flags.getLsbD 0 = true ∧ t.rangeFault = true)
  fault : s.rangeFault = true → t.rangeFault = true

theorem SameTimes.kept {s t : State} (h : SameTimes s t) : TimesKept s t where
  result := .inl h.result
  stream _ hr := .inl (h.out ▸ hr)
  fault hs := h.fault.trans hs

theorem SameTimes.trans_kept {s t u : State} (h : SameTimes s t) (k : TimesKept t u) : TimesKept s u where
  result := h.result ▸ k.result
  stream := h.out ▸ k.stream
  fault hs := k.fault (h.fault.trans hs)

theorem TimesKept.of_next {s t u : State} (k : TimesKept s u) (h : (.next u : Result) = .next t) : TimesKept s t := by
  cases h
  exact k

theorem TimesKept.streamNormalized {s t : State} (k : TimesKept s t) (h : StreamNormalized s) : StreamNormalized t := by
  intro r hr hflag
  rcases k.stream r hr with hold | hnew | ⟨hnr, -⟩
  · exact h r hold hflag
  · exact hnew.2
  · rw [hflag] at hnr
    cases hnr

theorem TimesKept.normalizedUnlessFault {s t : State} (k : TimesKept s t) (h : NormalizedUnlessFault s) :
    NormalizedUnlessFault t := by
  have hbefore (ht : t.rangeFault = false) : s.rangeFault = false :=
    Bool.eq_false_iff.mpr fun hs => Bool.eq_false_iff.mp ht (k.fault hs)
  refine ⟨fun ht => ?result, fun ht r hr => ?stream⟩
  case result =>
    rcases k.result with hsame | hnew | hfault
    · exact hsame ▸ h.result (hbefore ht)
    · exact isNormalized_iff.mp hnew
    · exact absurd hfault (Bool.eq_false_iff.mp ht)
  case stream =>
    rcases k.stream r hr with hold | hnew | ⟨-, hfault⟩
    · exact h.stream (hbefore ht) r hold
    · exact hnew
    · exact absurd hfault (Bool.eq_false_iff.mp ht)

/-! ## Instructions that produce no time -/

/-- The instructions that may write `R` or the output stream. -/
def producesTime : Instr → Bool
  | .tvNorm | .tvAdd | .tvSub | .tvP2t | .capDeliver => true
  | _ => false

/-- `dev.close` (spec/44_device.md R218) writes `ERR`, and lets an OPEN device that is not calibrating close. -/
theorem execDevClose_cases {s t : State} (h : execDevClose s = .next t) :
    (∃ code, t = s.setErr code opcDevClose) ∨
      (s.life.dev = .opened ∧ s.cal.running = false ∧
        t = ({ s with life := { s.life with dev := .closing, phase := .stopCapture } } : State).setErr .ok
          opcDevClose) := by
  unfold execDevClose at h
  split at h
  · cases h; exact .inl ⟨_, rfl⟩
  · cases h; exact .inl ⟨_, rfl⟩
  · rename_i hdev
    split at h <;> rename_i hrun <;> cases h
    · exact .inl ⟨_, rfl⟩
    · exact .inr ⟨hdev, Bool.eq_false_iff.mpr hrun, rfl⟩

/-- A drain iteration (spec/42_capture.md R147): it is not enabled and holds, or it finds the card FIFO empty, or pushes
the tuple it reads. -/
theorem execCapDrainStep_cases {s t : State} (h : execCapDrainStep s = .next t) :
    t = s ∨ (s.capt.dr = .active ∧ ∃ u, u = (s.dread .fifoCsr).2 ∧
      (((s.dread .fifoCsr).1.getLsbD 0 = true ∧ t = { u with capt := { u.capt with dr := .finish } }) ∨
        ((s.dread .fifoCsr).1.getLsbD 0 = false ∧ ∃ v, u.readTuple.2.ringPush? u.readTuple.1 = some v ∧
          t = { v with capt := { v.capt with drPushed := v.capt.drPushed + 1#64 } }))) := by
  unfold execCapDrainStep at h
  dsimp only at h
  split at h
  · rename_i hdr
    split at h
    · rename_i hempty
      cases h
      exact .inr ⟨hdr, _, rfl, .inl ⟨hempty, rfl⟩⟩
    · rename_i hempty
      split at h
      · cases h
      · rename_i v hv
        cases h
        exact .inr ⟨hdr, _, rfl, .inr ⟨Bool.eq_false_iff.mpr hempty, v, hv, rfl⟩⟩
  · cases h; exact .inl rfl

/-- A delivery (spec/42_capture.md R153, R155): it is not enabled and holds, or delivers the raw sample it pops. -/
theorem execCapDeliver_cases {s t : State} (h : execCapDeliver s = .next t) :
    t = s ∨ (s.life.dev = .opened ∧ s.ring.head ≠ s.ring.tail ∧ ∃ x r, s.ring.pop = .sample x r ∧ x.isRaw = true ∧
      t = ({ s with ring := r } : State).deliver x) := by
  unfold execCapDeliver at h
  split at h
  · rename_i hen
    split at h
    · cases h
    · cases h; exact .inl rfl
    · cases h
    · rename_i x r hpop
      split at h
      · rename_i hraw
        cases h
        exact .inr ⟨hen.1, hen.2, x, r, hpop, hraw, rfl⟩
      · cases h
  · cases h; exact .inl rfl

@[simp] theorem noteDrop_rangeFault (s : State) : s.noteDrop.rangeFault = s.rangeFault := by
  rcases noteDrop_spec s with ⟨d, -, h⟩ | ⟨-, h⟩ <;> rw [h]
  rfl

theorem ringPush?_sameTimes {s t : State} {x : RawSample} (h : s.ringPush? x = some t) : SameTimes s t := by
  obtain ⟨c, -, -, rfl⟩ := ringPush?_some h
  exact ⟨by simp, by simp, by simp⟩

theorem execRbPush_sameTimes {s t : State} {x : RawSample} (h : execRbPush x s = .next t) : SameTimes s t := by
  unfold execRbPush at h
  split at h
  · cases h
  · rename_i u hu
    cases h
    exact ringPush?_sameTimes hu

theorem execCapDrainStep_sameTimes {s t : State} (h : execCapDrainStep s = .next t) : SameTimes s t := by
  rcases execCapDrainStep_cases h with rfl | ⟨-, u, rfl, ⟨-, rfl⟩ | ⟨-, v, hv, rfl⟩⟩
  · exact .refl _
  · have k := (dread_sameBlock .fifoCsr s).sameTimes
    exact ⟨k.result, k.out, k.fault⟩
  · have k := ((dread_sameBlock .fifoCsr s).trans (readTuple_sameBlock _)).sameTimes.trans (ringPush?_sameTimes hv)
    exact ⟨k.result, k.out, k.fault⟩

theorem execCapDrainFinish_sameTimes {s t : State} (h : execCapDrainFinish s = .next t) : SameTimes s t := by
  unfold execCapDrainFinish at h
  split at h
  · split at h
    · cases h; exact ⟨rfl, rfl, rfl⟩
    · dsimp only at h
      split at h <;> cases h <;> exact ⟨rfl, rfl, rfl⟩
  · cases h; exact .refl s

theorem execLcStopCapture_sameTimes {s t : State} (h : execLcStopCapture s = .next t) : SameTimes s t := by
  unfold execLcStopCapture at h
  split at h
  · cases h
    cases s.capt.mode <;> exact ⟨rfl, rfl, rfl⟩
  · cases h; exact .refl s

theorem fatalTeardown_sameTimes (s : State) : SameTimes s s.fatalTeardown := by
  rcases fatalTeardown_cases s with ⟨-, h⟩ | ⟨-, h⟩ <;> rw [h] <;> exact ⟨rfl, rfl, rfl⟩

/-- Every instruction but the four that write `R` and `cap.deliver` leaves the times as they are. -/
theorem exec_sameTimes {i : Instr} {s t : State} (hi : producesTime i = false) (h : exec i s = .next t) :
    SameTimes s t := by
  cases i with
  | nop => cases h; exact ⟨rfl, rfl, rfl⟩
  | tvT2p | rbNew | rbPop | capTick | capIrq | lcStopComp | lcRelease =>
    simp only [exec, execTvT2p, execRbNew, execRbPop, execCapTick, execCapIrq, execLcStopComp, execLcRelease] at h
    split at h <;> cases h <;> exact ⟨rfl, rfl, rfl⟩
  | devOpen =>
    rcases execDevOpen_cases h with ⟨code, rfl⟩ | ⟨-, -, -, ⟨-, rfl⟩ | ⟨-, rfl⟩⟩ <;> exact ⟨rfl, rfl, rfl⟩
  | devClose => rcases execDevClose_cases h with ⟨code, rfl⟩ | ⟨-, -, rfl⟩ <;> exact ⟨rfl, rfl, rfl⟩
  | calStart ch =>
    rcases execCalStart_cases h with ⟨code, rfl⟩ | rfl | ⟨-, -, -, -, -, c, -, rfl⟩
    · exact ⟨rfl, rfl, rfl⟩
    · have k := fatalTeardown_sameTimes { s with cal := { s.cal with err := .hwFault } }
      exact ⟨k.result, k.out, k.fault⟩
    · exact ⟨rfl, rfl, rfl⟩
  | rbPush x => exact execRbPush_sameTimes h
  | capDrainStep => exact execCapDrainStep_sameTimes h
  | capDrainFinish => exact execCapDrainFinish_sameTimes h
  | calShot =>
    rcases execCalShot_cases h with rfl | ⟨-, o, u, -, hu, ⟨code, -, rfl⟩ | ⟨raw, v, -, -, -, rfl⟩⟩
    · exact .refl _
    · exact hu.sameTimes.trans ⟨rfl, rfl, rfl⟩
    · exact hu.sameTimes.trans ⟨rfl, rfl, rfl⟩
  | calPoint => rcases execCalPoint_cases h with rfl | ⟨-, ⟨-, rfl⟩ | ⟨-, rfl⟩⟩ <;> exact ⟨rfl, rfl, rfl⟩
  | calFit => rcases execCalFit_cases h with rfl | ⟨-, -, off, -, rfl⟩ <;> exact ⟨rfl, rfl, rfl⟩
  | lcStopCapture => exact execLcStopCapture_sameTimes h
  | tvNorm | tvAdd | tvSub | tvP2t | capDeliver => cases hi

/-! ## Instructions that produce one -/

/-- A command that puts a normalized time, or one that it flags, in `R`. -/
theorem putTime_timesKept {x : TimeResult} (hx : isNormalized x.val = true ∨ x.nr = true) (code : ErrCode)
    (op : BitVec 8) (s : State) : TimesKept s ((s.putTime x).setErr code op) where
  result := hx.elim (fun hn => .inr (.inl hn)) fun hnr => .inr (.inr (by simp [hnr]))
  stream _ hr := .inl hr
  fault hs := by simp [hs]

theorem setErr_sameTimes (code : ErrCode) (op : BitVec 8) (s : State) : SameTimes s (s.setErr code op) := ⟨rfl, rfl, rfl⟩

theorem timeNormalize_inRange_or_flagged {x : TimeValue} (hx : x.isRaw = true) :
    isNormalized (timeNormalize x).val = true ∨ (timeNormalize x).nr = true := by
  rw [timeNormalize_isNormalized hx]
  cases (timeNormalize x).nr <;> simp

/-- `R` after the commands that write it (spec/40_timevalue.md R125, law 1). -/
theorem exec_tv_timesKept {i : Instr} {s t : State} (hi : i = .tvNorm ∨ i = .tvAdd ∨ i = .tvSub ∨ i = .tvP2t)
    (h : exec i s = .next t) : TimesKept s t := by
  rcases hi with rfl | rfl | rfl | rfl
  · by_cases ha : s.tvu.a.isRaw = true
    · exact (putTime_timesKept (timeNormalize_inRange_or_flagged ha) _ _ s).of_next ((exec_tvNorm_raw ha).symm.trans h)
    · exact (setErr_sameTimes _ _ s).kept.of_next ((exec_tvNorm_domain ha).symm.trans h)
  · by_cases hn : isNormalized s.tvu.a = true ∧ isNormalized s.tvu.b = true
    · exact (putTime_timesKept (.inl (timeAdd_isNormalized hn.1 hn.2)) _ _ s).of_next
        ((exec_tvAdd_normalized hn.1 hn.2).symm.trans h)
    · exact (setErr_sameTimes _ _ s).kept.of_next ((exec_tvAdd_domain hn).symm.trans h)
  · by_cases hn : isNormalized s.tvu.a = true ∧ isNormalized s.tvu.b = true
    · exact (putTime_timesKept (.inl (timeSub_isNormalized hn.1 hn.2)) _ _ s).of_next
        ((exec_tvSub_normalized hn.1 hn.2).symm.trans h)
    · exact (setErr_sameTimes _ _ s).kept.of_next ((exec_tvSub_domain hn).symm.trans h)
  · rw [exec_tvP2t] at h
    cases h
    exact ⟨.inr (.inl (picoToTime_isNormalized _)), fun _ hr => .inl hr, id⟩

/-- The bit `NR` of a record's flags (spec/30_encoding.md R94). -/
theorem recordFlags_nr (nr cr ov : Bool) : (recordFlags nr cr ov).getLsbD 0 = nr := by
  rw [recordFlags, getLsbD_append_flag]
  rfl

/-- A delivered time is flagged or normalized: both offsets are normalized, and so are the sums
(spec/42_capture.md R155). -/
theorem deliverTime_inRange_or_flagged (cfg : HostCfg) {x : RawSample} (hx : x.isRaw = true) :
    (deliverTime cfg x).nr = true ∨ ((deliverTime cfg x).nr = false ∧ isNormalized (deliverTime cfg x).time = true) := by
  unfold deliverTime
  dsimp only
  split
  · exact .inl rfl
  · rename_i hnr
    have hn := (timeNormalize_inRange_or_flagged hx).resolve_right hnr
    split
    · exact .inr ⟨rfl, hn⟩
    · exact .inr ⟨rfl, timeAdd_isNormalized (timeAdd_isNormalized hn (picoToTime_isNormalized _))
        (picoToTime_isNormalized _)⟩

/-- The record of a delivery is in range, or flagged `NR` with the fault taken. -/
theorem deliver_timesKept {x : RawSample} (hx : x.isRaw = true) (s : State) : TimesKept s (s.deliver x) where
  result := .inl rfl
  stream r hr := by
    rw [deliver_out, List.mem_append, List.mem_singleton] at hr
    rcases hr with hold | rfl
    · exact .inl hold
    · have hflag := recordFlags_nr (deliverTime s.cfg x).nr (deliverTime s.cfg x).cr (deliverTime s.cfg x).ov
      rcases deliverTime_inRange_or_flagged s.cfg hx with hnr | ⟨hnr, hn⟩
      · exact .inr (.inr ⟨hflag.trans hnr, by simp [hnr]⟩)
      · exact .inr (.inl ⟨hflag.trans hnr, isNormalized_iff.mp hn⟩)
  fault hs := by simp [hs]

theorem execCapDeliver_timesKept {s t : State} (h : execCapDeliver s = .next t) : TimesKept s t := by
  rcases execCapDeliver_cases h with rfl | ⟨-, -, x, r, -, hraw, rfl⟩
  · exact (SameTimes.refl _).kept
  · have hring : SameTimes s { s with ring := r } := ⟨rfl, rfl, rfl⟩
    exact hring.trans_kept (deliver_timesKept hraw _)

theorem exec_timesKept {i : Instr} {s t : State} (h : exec i s = .next t) : TimesKept s t := by
  by_cases hi : producesTime i = false
  · exact (exec_sameTimes hi h).kept
  cases i with
  | tvNorm | tvAdd | tvSub | tvP2t => exact exec_tv_timesKept (by simp) h
  | capDeliver => exact execCapDeliver_timesKept h
  | _ => exact absurd rfl hi

/-! ## Steps -/

/-- No time register is writable by the host (spec/10_state.md R23, R31). -/
theorem writeCsr_sameTimes (s : State) (w : Word) (r : Csr) : SameTimes s (writeCsr s w r) := by
  cases r <;> exact ⟨rfl, rfl, rfl⟩

theorem eventStep_run_sameTimes {e : Event} {i : Instr} {s u : State} (h : eventStep e s = .run i u) :
    SameTimes s u := by
  rcases eventStep_run_cases h with ⟨w, -, -, rfl⟩ | ⟨rfl, -⟩ <;> exact ⟨rfl, rfl, rfl⟩

/-- A step finished at once is reset or leaves the times as they are. -/
theorem eventStep_done_sameTimes {e : Event} {s t : State} (h : eventStep e s = .done t) :
    (e = .reset ∧ t = s.resetBlock) ∨ SameTimes s t := by
  cases e with
  | reset => cases h; exact .inl ⟨rfl, rfl⟩
  | hostRead off =>
    cases h
    unfold State.hostRead
    split <;> exact .inr ⟨rfl, rfl, rfl⟩
  | hostWrite off w =>
    rcases hostWrite_cases off w s with ⟨j, -, -, hw⟩ | hw | ⟨r, -, hw⟩ | hw <;> rw [eventStep, hw] at h <;> cases h
    · exact .inr ⟨rfl, rfl, rfl⟩
    · exact .inr (writeCsr_sameTimes s w r)
    · exact .inr ⟨rfl, rfl, rfl⟩
  | lifecycle =>
    cases hop : lifecycleOp s <;> simp only [eventStep, hop] at h <;> cases h
    exact .inr (.refl _)
  | compAcquire => cases h; rcases compAcquire_cases s with h | ⟨-, -, h⟩ <;> rw [h] <;> exact .inr ⟨rfl, rfl, rfl⟩
  | compRelease => cases h; rcases compRelease_cases s with h | ⟨-, h⟩ <;> rw [h] <;> exact .inr ⟨rfl, rfl, rfl⟩
  | compWrite ch w =>
    cases h
    unfold State.compWrite
    split <;> exact .inr ⟨rfl, rfl, rfl⟩
  | envFifo _ | envInputs _ _ | envTdc _ | envFifoCsr _ => cases h; exact .inr ⟨rfl, rfl, rfl⟩
  | drainer | deliverer | calibrator | envTick => cases h

/-- After reset the stream is empty and `R` is 0 (spec/70_reset_and_hazards.md R266). -/
theorem resetBlock_times (s : State) : StreamNormalized s.resetBlock ∧ NormalizedUnlessFault s.resetBlock := by
  have hout : s.resetBlock.capt.out = [] := rfl
  have hr : s.resetBlock.tvu.r = TimeValue.zero := rfl
  refine ⟨fun r hmem => ?_, ⟨fun _ => ?_, fun _ r hmem => ?_⟩⟩
  · rw [hout] at hmem; cases hmem
  · rw [hr]; decide
  · rw [hout] at hmem; cases hmem

/-- A step that completes is reset, or keeps the times. -/
theorem step_timesKept {s t : State} (h : step s = .next t) :
    (s.sched.head? = some .reset ∧ ∃ u : State, t = u.resetBlock) ∨ TimesKept s t := by
  rcases step_inversion h with rfl | ⟨e, rest, hs, ⟨i, u, he, hx⟩ | he⟩
  · exact .inr (SameTimes.refl _).kept
  · have hsched : SameTimes s { s with sched := rest } := ⟨rfl, rfl, rfl⟩
    exact .inr ((hsched.trans (eventStep_run_sameTimes he)).trans_kept (exec_timesKept hx))
  · have hsched : SameTimes s { s with sched := rest } := ⟨rfl, rfl, rfl⟩
    rcases eventStep_done_sameTimes he with ⟨rfl, rfl⟩ | hsame
    · exact .inl ⟨by rw [hs]; rfl, _, rfl⟩
    · exact .inr (hsched.trans hsame).kept

/-- Settles O35: a step keeps the times (`step_timesKept`), or is reset, which leaves none. -/
theorem streamNormalizedKept : Obligations.StreamNormalizedKept := by
  intro s t h
  rcases step_timesKept h with ⟨hhead, u, rfl⟩ | hkept
  · obtain ⟨hstream, hnormal⟩ := resetBlock_times u
    exact ⟨fun _ => hstream, fun _ => hnormal, fun _ hne => absurd hhead hne⟩
  · exact ⟨hkept.streamNormalized, hkept.normalizedUnlessFault, fun hs _ => hkept.fault hs⟩

end Sys2Proof.Machine
end

section
/-! PROOFS. The ring as a bounded FIFO (spec/41_ringbuffer.md R131 to R139): when a push or a pop stops, what each leaves,
and what that does to the contents and to the ring's invariant. -/

namespace Sys2Proof.Machine

/-! ## What push and pop find -/

/-- The state after `rb.push(x)` into storage of capacity c, with its overflow handling (spec/41_ringbuffer.md R133,
R134). -/
def State.pushed (c : BitVec 64) (x : RawSample) (s : State) : State :=
  ({ s with ring := s.ring.push c x } : State).noteDrop

@[simp] theorem pushed_ring (c : BitVec 64) (x : RawSample) (s : State) : (s.pushed c x).ring = s.ring.push c x :=
  noteDrop_ring _

theorem Ring.storage?_of_absent {r : Ring} (h : r.cap = none) : r.storage? = none := by
  simp [Ring.storage?, h]

theorem ringPush?_of_storage {s : State} {c : BitVec 64} (hcap : s.ring.cap = some c) (hc : c ≠ 0#64) (x : RawSample) :
    s.ringPush? x = some (s.pushed c x) := by
  simp only [State.ringPush?, Ring.storage?_eq_some.mpr ⟨hcap, hc⟩, State.pushed]

theorem exec_rbPush {s : State} {c : BitVec 64} (hcap : s.ring.cap = some c) (hc : c ≠ 0#64) (x : RawSample) :
    exec (.rbPush x) s = .next (s.pushed c x) := by
  simp only [exec, execRbPush, ringPush?_of_storage hcap hc]

theorem exec_rbPush_absent {s : State} (h : s.ring.cap = none) (x : RawSample) :
    exec (.rbPush x) s = .fault .ringAbsent := by
  simp only [exec, execRbPush, State.ringPush?, Ring.storage?_of_absent h]

theorem exec_rbPop_absent {s : State} (h : s.ring.cap = none) : exec .rbPop s = .fault .ringAbsent := by
  simp only [exec, execRbPop, Ring.pop, Ring.storage?_of_absent h]

section Storage

variable {s : State} {c : BitVec 64} (hcap : s.ring.cap = some c) (hc : c ≠ 0#64)
include hcap hc

/-- `rb.pop` of an empty ring (spec/41_ringbuffer.md R136). -/
theorem exec_rbPop_empty (h : s.ring.tail = s.ring.head) :
    exec .rbPop s = .next { s with ring := { s.ring with ret := .empty } } := by
  simp only [exec, execRbPop, Ring.pop, Ring.storage?_eq_some.mpr ⟨hcap, hc⟩, if_pos h]

/-- `rb.pop` of a slot that no push has written (spec/10_state.md R51). -/
theorem exec_rbPop_unwritten (h : s.ring.tail ≠ s.ring.head)
    (hread : Memory.read s.ring.slots (slotIndex s.ring.tail c) = none) :
    exec .rbPop s = .fault .unwrittenSlot := by
  simp only [exec, execRbPop, Ring.pop, Ring.storage?_eq_some.mpr ⟨hcap, hc⟩, if_neg h, hread]

theorem Ring.pop_of_read {x : RawSample} (h : s.ring.tail ≠ s.ring.head)
    (hread : Memory.read s.ring.slots (slotIndex s.ring.tail c) = some x) :
    s.ring.pop = .sample x { s.ring with tail := s.ring.tail + 1#64, ret := .sample x } := by
  simp only [Ring.pop, Ring.storage?_eq_some.mpr ⟨hcap, hc⟩, if_neg h, hread]

/-- `rb.pop` of a written slot (spec/41_ringbuffer.md R136). -/
theorem exec_rbPop_sample {x : RawSample} (h : s.ring.tail ≠ s.ring.head)
    (hread : Memory.read s.ring.slots (slotIndex s.ring.tail c) = some x) :
    exec .rbPop s = .next { s with ring := { s.ring with tail := s.ring.tail + 1#64, ret := .sample x } } := by
  simp only [exec, execRbPop, Ring.pop_of_read hcap hc h hread]

end Storage

/-- Settles O26: the cases of `rb.push` and `rb.pop` that stop. -/
theorem ringStops : Obligations.RingStops := fun _ =>
  ⟨fun h => ⟨exec_rbPush_absent h, exec_rbPop_absent h⟩,
    fun _ hcap hc hne hread => exec_rbPop_unwritten hcap hc hne hread⟩

/-- Settles O25: the two cases of `rb.pop` that answer. -/
theorem rbPopResult : Obligations.RbPopResult := fun _ _ hcap hc =>
  ⟨exec_rbPop_empty hcap hc, fun hne _ hread => exec_rbPop_sample hcap hc hne hread⟩

/-- A push that reaches the capacity drops half of it and says so (spec/41_ringbuffer.md R133, R134). -/
theorem pushed_overflow {s : State} {c : BitVec 64} (h : c ≤ s.ring.head + 1#64 - s.ring.tail) (x : RawSample) :
    s.pushed c x = { s with
      ring := s.ring.push c x
      sticky := { s.sticky with rbOvf := true }
      capt := { s.capt with dropped := s.capt.dropped + c / 2#64 } } ∧
    (s.ring.push c x).tail = s.ring.tail + c / 2#64 ∧ (s.ring.push c x).ret = .overflow (c / 2#64) := by
  obtain ⟨-, -, -, ⟨-, htail, hret⟩ | ⟨hlt, -, -⟩⟩ := s.ring.push_spec c x
  · refine ⟨?_, htail, hret⟩
    simp only [State.pushed, State.noteDrop, hret, State.noteRbOvf]
  · exact absurd h hlt

/-- A push that stays below the capacity moves neither the tail nor `DROPPED` (spec/41_ringbuffer.md R133). -/
theorem pushed_ok {s : State} {c : BitVec 64} (h : ¬ c ≤ s.ring.head + 1#64 - s.ring.tail) (x : RawSample) :
    s.pushed c x = { s with ring := s.ring.push c x } ∧
    (s.ring.push c x).tail = s.ring.tail ∧ (s.ring.push c x).ret = .ok := by
  obtain ⟨-, -, -, ⟨hle, -, -⟩ | ⟨-, htail, hret⟩⟩ := s.ring.push_spec c x
  · exact absurd hle h
  · refine ⟨?_, htail, hret⟩
    simp only [State.pushed, State.noteDrop, hret]

/-- Settles O23: by whether the push reaches the capacity; the slots are those of `Memory.read_write`. -/
theorem rbPushResult : Obligations.RbPushResult := by
  intro s x c hcap hc
  refine ⟨s.pushed c x, exec_rbPush hcap hc x, ?_⟩
  have hslots (j : Nat) := Memory.read_write s.ring.slots (slotIndex s.ring.head c) j x
  by_cases h : c ≤ s.ring.head + 1#64 - s.ring.tail
  · obtain ⟨hpushed, htail, hret⟩ := pushed_overflow h x
    refine ⟨by rw [hpushed], by simp [hcap], by simp, by rwa [pushed_ring, Ring.push_slots], fun _ => ?_, fun hlt => ?_⟩
    · rw [hpushed]
      exact ⟨htail, hret, rfl, rfl⟩
    · simp only [pushed_ring, Ring.push_head] at hlt
      exact absurd h (BitVec.not_le.mpr hlt)
  · obtain ⟨hpushed, htail, hret⟩ := pushed_ok h x
    refine ⟨by rw [hpushed], by simp [hcap], by simp, by rwa [pushed_ring, Ring.push_slots], fun hge => ?_, fun _ => ?_⟩
    · simp only [pushed_ring, Ring.push_head] at hge
      exact absurd hge h
    · rw [hpushed]
      exact ⟨htail, hret, rfl, rfl⟩

/-! ## The contents -/

@[simp] theorem Ring.contents_length (r : Ring) (c : BitVec 64) : (r.contents c).length = r.occupancy.toNat := by
  simp [Ring.contents]

theorem Ring.liveIndex_zero (r : Ring) (c : BitVec 64) : r.liveIndex c 0 = slotIndex r.tail c := by
  simp [Ring.liveIndex]

theorem Ring.occupancy_eq_zero {r : Ring} : r.occupancy.toNat = 0 ↔ r.tail = r.head := by
  rw [Ring.occupancy]
  bv_omega

theorem Ring.occupancy_pos {r : Ring} (h : r.tail ≠ r.head) : 0 < r.occupancy.toNat :=
  Nat.pos_of_ne_zero fun hzero => h (Ring.occupancy_eq_zero.mp hzero)

/-- No live slot is unwritten exactly when the contents list no gap. -/
theorem Ring.none_notMem_contents {r : Ring} {c : BitVec 64} :
    none ∉ r.contents c ↔ ∀ i < r.occupancy.toNat, Memory.read r.slots (r.liveIndex c i) ≠ none := by
  simp [Ring.contents]

/-- The ring with its tail d samples later: the oldest d are gone (spec/41_ringbuffer.md R134, R136). -/
theorem Ring.contents_advance {r r' : Ring} (c : BitVec 64) {d : Nat} (hhead : r'.head = r.head)
    (hslots : r'.slots = r.slots) (htail : r'.tail = r.tail + BitVec.ofNat 64 d) (hd : d ≤ r.occupancy.toNat) :
    r'.contents c = (r.contents c).drop d := by
  have hlen : r'.occupancy.toNat = r.occupancy.toNat - d := by
    have := r.occupancy.isLt
    have e : r'.occupancy = r.occupancy - BitVec.ofNat 64 d := by
      rw [Ring.occupancy, Ring.occupancy, hhead, htail]
      bv_omega
    rw [e, BitVec.toNat_sub_of_le (by rw [BitVec.le_def, BitVec.toNat_ofNat]; omega), BitVec.toNat_ofNat,
      Nat.mod_eq_of_lt (by omega)]
  have hindex (i : Nat) : r'.liveIndex c i = r.liveIndex c (d + i) := by
    rw [Ring.liveIndex, Ring.liveIndex, htail, BitVec.add_assoc, ← BitVec.ofNat_add]
  refine List.ext_getElem (by simp [hlen]) fun i _ _ => ?_
  simp [Ring.contents, hindex, hslots]

/-- The ring with a sample appended, before any overflow handling: the slot of the head written and the head moved
(spec/41_ringbuffer.md R133). -/
def Ring.appended (c : BitVec 64) (x : RawSample) (r : Ring) : Ring :=
  { r with slots := Memory.write r.slots (slotIndex r.head c) x, head := r.head + 1#64 }

section Bounded

variable {r : Ring} {c : BitVec 64} (hbound : r.occupancy.toNat + 1 ≤ c.toNat)
include hbound

theorem Ring.appended_occupancy (x : RawSample) : (r.appended c x).occupancy.toNat = r.occupancy.toNat + 1 :=
  occupancy_succ hbound

/-- What a push drops: half the capacity exactly when it fills the ring (spec/41_ringbuffer.md R133). -/
theorem Ring.push_tail (x : RawSample) :
    (r.push c x).tail =
      r.tail + BitVec.ofNat 64 (if r.occupancy.toNat + 1 = c.toNat then c.toNat / 2 else 0) ∧
    ((r.push c x).ret = .overflow (c / 2#64) → r.occupancy.toNat + 1 = c.toNat) := by
  have hocc : (r.head + 1#64 - r.tail).toNat = r.occupancy.toNat + 1 := occupancy_succ hbound
  obtain ⟨-, -, -, ⟨hle, htail, hret⟩ | ⟨hlt, htail, hret⟩⟩ := r.push_spec c x
  · have hfull : r.occupancy.toNat + 1 = c.toNat := by
      rw [BitVec.le_def] at hle
      omega
    have hhalf : BitVec.ofNat 64 (c.toNat / 2) = c / 2#64 := by
      rw [← half_toNat, BitVec.ofNat_toNat, BitVec.setWidth_eq]
    exact ⟨by rw [htail, if_pos hfull, hhalf], fun _ => hfull⟩
  · have hroom : r.occupancy.toNat + 1 ≠ c.toNat := by
      rw [BitVec.le_def] at hlt
      omega
    refine ⟨by rw [htail, if_neg hroom]; simp, fun h => ?_⟩
    rw [hret] at h
    cases h

variable (hc : capLegal c)
include hc

/-- The slot of the head holds no live sample, across the wrap of the counters (spec/41_ringbuffer.md R135). -/
theorem Ring.liveIndex_ne_head {i : Nat} (hi : i < r.occupancy.toNat) : r.liveIndex c i ≠ slotIndex r.head c := by
  rw [Ring.liveIndex, slotIndex_add hc, slotIndex_head (t := r.tail) hc]
  intro heq
  have hmod : i % c.toNat = r.occupancy.toNat % c.toNat := Nat.ModEq.add_left_cancel' r.tail.toNat heq
  rw [Nat.mod_eq_of_lt (by omega), Nat.mod_eq_of_lt (by omega)] at hmod
  omega

/-- Appending writes behind the live samples and leaves them as they are (spec/41_ringbuffer.md R133, R135). -/
theorem Ring.appended_contents (x : RawSample) : (r.appended c x).contents c = r.contents c ++ [some x] := by
  have hold : ∀ i ∈ List.range r.occupancy.toNat,
      Memory.read (r.appended c x).slots ((r.appended c x).liveIndex c i) = Memory.read r.slots (r.liveIndex c i) :=
    fun i hi => Memory.read_write_other _ _ (r.liveIndex_ne_head hbound hc (List.mem_range.mp hi))
  have hnew : Memory.read (r.appended c x).slots ((r.appended c x).liveIndex c r.occupancy.toNat) = some x := by
    have hindex : (r.appended c x).liveIndex c r.occupancy.toNat = slotIndex r.head c := by
      rw [Ring.liveIndex, slotIndex_add hc]
      exact (slotIndex_head hc).symm
    rw [hindex]
    exact Memory.read_write_same _ _ _
  rw [Ring.contents, r.appended_occupancy hbound, List.range_succ, List.map_append, List.map_congr_left hold,
    List.map_singleton, hnew]
  rfl

/-- `rb.push` on the contents (spec/41_ringbuffer.md R133, R134): the sample is appended, and a full ring loses its
oldest half. -/
theorem Ring.push_contents (x : RawSample) :
    (r.push c x).contents c =
      (r.contents c ++ [some x]).drop (if r.occupancy.toNat + 1 = c.toNat then c.toNat / 2 else 0) := by
  rw [← r.appended_contents hbound hc x]
  refine Ring.contents_advance c (by simp [Ring.appended]) (by simp [Ring.appended]) (r.push_tail hbound x).1 ?_
  rw [r.appended_occupancy hbound x]
  split <;> omega

theorem Ring.push_occupancy (x : RawSample) : (r.push c x).occupancy.toNat =
    if r.occupancy.toNat + 1 = c.toNat then c.toNat / 2 else r.occupancy.toNat + 1 := by
  have heven := hc.even
  rw [← Ring.contents_length _ c, r.push_contents hbound hc]
  simp only [List.length_drop, List.length_append, Ring.contents_length, List.length_singleton]
  split <;> omega

end Bounded

/-! ## The ring's invariant -/

/-- Settles O24: the head slot is free by `Ring.liveIndex_ne_head`, and the occupancy is `Ring.push_occupancy`. -/
theorem pushKeepsRingBound : Obligations.PushKeepsRingBound := by
  intro s x c hinv hcap
  have hc := hinv.legal c hcap
  have hbound := hinv.bound c hcap
  have hocc := s.ring.push_occupancy hbound hc x
  have heven := hc.even
  have htwo := hc.2.1
  refine ⟨fun i hi => s.ring.liveIndex_ne_head hbound hc hi, s.pushed c x, exec_rbPush hcap hc.ne_zero x, ?_⟩
  rw [pushed_ring, Ring.push_head, hocc]
  refine ⟨rfl, by split <;> omega, by split <;> omega, fun hret => if_pos ((s.ring.push_tail hbound x).2 hret)⟩

/-- A pop takes the oldest sample off the contents (spec/41_ringbuffer.md R136). -/
theorem Ring.pop_contents {r r' : Ring} {x : RawSample} (h : r.pop = .sample x r') :
    ∃ c, r.cap = some c ∧ r.contents c = some x :: r'.contents c := by
  obtain ⟨c, hcap, -, hne, hread, rfl⟩ := Ring.pop_sample h
  have hpos : 0 < r.occupancy.toNat := Ring.occupancy_pos hne
  have hlen : 0 < (r.contents c).length := by simpa using hpos
  have hfirst : (r.contents c)[0] = some x := by simp [Ring.contents, r.liveIndex_zero, hread]
  refine ⟨c, hcap, ?_⟩
  rw [Ring.contents_advance (r := r) (r' := { r with tail := r.tail + 1#64, ret := .sample x }) c (d := 1) rfl rfl rfl
    hpos, ← hfirst, List.getElem_cons_drop, List.drop_zero]

/-- Under the invariant a ring that is not empty pops a raw sample (spec/10_state.md R51, spec/30_encoding.md R93). -/
theorem RingInv.pop_answers {s : State} (hinv : RingInv s) {c : BitVec 64} (hcap : s.ring.cap = some c)
    (hne : s.ring.tail ≠ s.ring.head) :
    ∃ x, x.isRaw = true ∧
      s.ring.pop = .sample x { s.ring with tail := s.ring.tail + 1#64, ret := .sample x } := by
  have hpos : 0 < s.ring.occupancy.toNat := Ring.occupancy_pos hne
  have hwritten := hinv.written c hcap 0 hpos
  rw [Ring.liveIndex_zero] at hwritten
  obtain ⟨x, hread⟩ := Option.ne_none_iff_exists'.mp hwritten
  exact ⟨x, hinv.raw _ (Memory.mem_of_read hread), Ring.pop_of_read hcap (hinv.legal c hcap).ne_zero hne hread⟩

/-- Settles O27: a push is `Ring.push_contents`, a pop of a ring that is not empty `Ring.pop_contents`. -/
theorem ringIsBoundedFifo : Obligations.RingIsBoundedFifo := by
  intro s c hinv hcap
  have hc := hinv.legal c hcap
  refine ⟨fun x => ⟨s.pushed c x, exec_rbPush hcap hc.ne_zero x, ?push⟩, fun hempty => ?empty, fun y l hcons => ?sample⟩
  case push =>
    rw [pushed_ring, Ring.contents_length]
    exact s.ring.push_contents (hinv.bound c hcap) hc x
  case empty =>
    have htail : s.ring.tail = s.ring.head := by
      rw [← Ring.occupancy_eq_zero, ← Ring.contents_length _ c, hempty, List.length_nil]
    exact ⟨_, exec_rbPop_empty hcap hc.ne_zero htail, rfl, hempty⟩
  case sample =>
    have hne : s.ring.tail ≠ s.ring.head := fun htail => by
      rw [← Ring.occupancy_eq_zero, ← Ring.contents_length _ c, hcons] at htail
      cases htail
    obtain ⟨x, -, hpop⟩ := hinv.pop_answers hcap hne
    obtain ⟨c', hcap', hcontents⟩ := Ring.pop_contents hpop
    obtain rfl := Option.some.inj (hcap.symm.trans hcap')
    obtain ⟨hy, hl⟩ := List.cons.inj (hcons.symm.trans hcontents)
    refine ⟨x, { s with ring := { s.ring with tail := s.ring.tail + 1#64, ret := .sample x } }, hy, ?_, rfl,
      hl.symm⟩
    simp only [exec, execRbPop, hpop]

end Sys2Proof.Machine
end

section
/-! PROOFS. Every step answers and keeps the machine's invariant (spec/41_ringbuffer.md R131, R139, spec/10_state.md R49 to
R51, spec/43_calibrator.md R189 to R191, spec/44_device.md R219, R222): first what keeps each of the invariant's three
parts, then one lemma per instruction that changes what they read. -/

namespace Sys2Proof.Machine

/-! ## The ring's part -/

/-- The ring's part reads the ring and whether the device is CLOSED. -/
theorem RingInv.congr {s t : State} (h : RingInv s) (hring : t.ring = s.ring)
    (hdev : t.life.dev = .closed ↔ s.life.dev = .closed) : RingInv t := by
  obtain ⟨canonical, raw, absent, empty, legal, bound, written⟩ := h
  constructor <;> simp only [hring, hdev] <;> assumption

/-- The ring's part while storage exists: no live slot is unwritten when the contents list no gap. -/
theorem RingInv.of_storage {t : State} {c : BitVec 64} (hcap : t.ring.cap = some c) (hdev : t.life.dev ≠ .closed)
    (hcanonical : Memory.wf t.ring.slots) (hraw : ∀ p ∈ t.ring.slots, p.2.isRaw = true) (hlegal : capLegal c)
    (hbound : t.ring.occupancy.toNat + 1 ≤ c.toNat) (hwritten : none ∉ t.ring.contents c) : RingInv t where
  canonical := hcanonical
  raw := hraw
  absent := by simp [hcap, hdev]
  empty := by simp [hcap]
  legal := by simpa [hcap] using hlegal
  bound := by simpa [hcap] using hbound
  written := by simpa [hcap] using Ring.none_notMem_contents.mp hwritten

/-- The ring's part while CLOSED: there is no storage (spec/41_ringbuffer.md R139). -/
theorem RingInv.of_absent {t : State} (hcap : t.ring.cap = none) (hslots : t.ring.slots = [])
    (hdev : t.life.dev = .closed) : RingInv t where
  canonical := by simp [hslots]
  raw := by simp [hslots]
  absent := by simp [hcap, hdev]
  empty _ := hslots
  legal := by simp [hcap]
  bound := by simp [hcap]
  written := by simp [hcap]

theorem RingInv.none_notMem_contents {s : State} (h : RingInv s) {c : BitVec 64} (hcap : s.ring.cap = some c) :
    none ∉ s.ring.contents c := Ring.none_notMem_contents.mpr (h.written c hcap)

/-- Storage exists outside CLOSED (spec/41_ringbuffer.md R139). -/
theorem RingInv.exists_storage {s : State} (h : RingInv s) (hdev : s.life.dev ≠ .closed) : ∃ c, s.ring.cap = some c :=
  Option.ne_none_iff_exists'.mp fun hnone => hdev (h.absent.mp hnone)

theorem RingInv.dev_ne_closed {s : State} (h : RingInv s) {c : BitVec 64} (hcap : s.ring.cap = some c) :
    s.life.dev ≠ .closed := fun hdev => by
  rw [h.absent.mpr hdev] at hcap
  cases hcap

/-- A push of a raw sample keeps the ring's part (spec/41_ringbuffer.md R131, R135). -/
theorem RingInv.push {s t : State} {c : BitVec 64} {x : RawSample} (h : RingInv s) (hcap : s.ring.cap = some c)
    (hraw : x.isRaw = true) (hring : t.ring = s.ring.push c x) (hlife : t.life = s.life) : RingInv t := by
  have hlegal := h.legal c hcap
  have hbound := h.bound c hcap
  have hocc := s.ring.push_occupancy hbound hlegal x
  have hcontents := s.ring.push_contents hbound hlegal x
  have htwo := hlegal.2.1
  refine .of_storage (c := c) ?_ ?_ ?_ ?_ hlegal ?_ ?_
  · rw [hring, Ring.push_cap, hcap]
  · rw [hlife]
    exact h.dev_ne_closed hcap
  · rw [hring, Ring.push_slots]
    exact Memory.write_wf _ _ h.canonical
  · intro p hp
    rw [hring, Ring.push_slots] at hp
    rcases Memory.mem_write hp with rfl | hold
    · exact hraw
    · exact h.raw p hold
  · rw [hring, hocc]
    split <;> omega
  · rw [hring, hcontents]
    intro hgap
    rcases List.mem_append.mp (List.mem_of_mem_drop hgap) with hold | hnew
    · exact h.none_notMem_contents hcap hold
    · simp at hnew

/-- A pop keeps the ring's part (spec/41_ringbuffer.md R136). -/
theorem RingInv.pop {s t : State} {x : RawSample} {r : Ring} (h : RingInv s) (hpop : s.ring.pop = .sample x r)
    (hring : t.ring = r) (hlife : t.life = s.life) : RingInv t := by
  obtain ⟨c, hcap, hcontents⟩ := Ring.pop_contents hpop
  obtain ⟨-, -, -, -, -, hr⟩ := Ring.pop_sample hpop
  have hcap' : t.ring.cap = s.ring.cap := by rw [hring, hr]
  have hslots : t.ring.slots = s.ring.slots := by rw [hring, hr]
  have hlen := congrArg List.length hcontents
  rw [List.length_cons, Ring.contents_length, Ring.contents_length] at hlen
  have hbound := h.bound c hcap
  refine .of_storage (hcap'.trans hcap) ?_ (hslots ▸ h.canonical) (hslots ▸ h.raw) (h.legal c hcap) ?_ ?_
  · rw [hlife]
    exact h.dev_ne_closed hcap
  · rw [hring]
    omega
  · rw [hring]
    intro hgap
    refine h.none_notMem_contents hcap ?_
    rw [hcontents]
    exact List.mem_cons_of_mem _ hgap

/-! ## The lifecycle's part -/

/-- Moves of the lock keep the lifecycle's part, unless they take it while CLOSED (spec/10_state.md R49). -/
theorem LifeInv.withLock {s t : State} {l : LockState} (h : LifeInv s) (hlife : t.life = { s.life with lock := l })
    (hcapt : t.capt = s.capt) (hclosed : s.life.dev = .closed → l = .free) : LifeInv t := by
  obtain ⟨closing, fatal, drainClosed, drainJoined, compOpen, compStopped, -, drainMode⟩ := h
  constructor <;> simp only [hlife, hcapt] <;> assumption

/-- The drainer's moves keep the lifecycle's part: a drain starts only while OPEN, and runs in the context of the capture
mode (spec/42_capture.md R146, R149, R150). -/
theorem LifeInv.drain {s t : State} (h : LifeInv s) (hlife : t.life = s.life)
    (hdrain : t.capt.dr ≠ .idle → (s.capt.dr ≠ .idle ∨ s.life.dev = .opened) ∧ t.capt.drCtx = t.capt.mode) :
    LifeInv t := by
  have hidle (hs : s.capt.dr = .idle) (hdev : s.life.dev ≠ .opened) : t.capt.dr = .idle := by
    by_contra ht
    rcases (hdrain ht).1 with hdr | hopen
    · exact hdr hs
    · exact hdev hopen
  obtain ⟨closing, fatal, drainClosed, drainJoined, compOpen, compStopped, lockClosed, -⟩ := h
  refine ⟨by rwa [hlife], by rwa [hlife], ?drainClosed, ?drainJoined, by rwa [hlife], by rwa [hlife], by rwa [hlife],
    fun hdr => (hdrain hdr).2⟩ <;> rw [hlife]
  case drainClosed => exact fun hdev => hidle (drainClosed hdev) (by simp [hdev])
  case drainJoined =>
    intro hphase
    have hclosing : s.life.dev = .closing := closing.mpr (by rcases hphase with hp | hp <;> simp [hp])
    exact hidle (drainJoined hphase) (by simp [hclosing])

/-- A device that starts to close, with or without a fatal fault (spec/44_device.md R218, R221). -/
theorem LifeInv.of_closing {s t : State} (h : LifeInv s) (hdev : t.life.dev = .closing)
    (hphase : t.life.phase = .stopCapture) (hcapt : t.capt = s.capt) : LifeInv t where
  closing := by simp [hdev, hphase]
  fatal _ := by simp [hdev]
  drainClosed := by simp [hdev]
  drainJoined := by simp [hphase]
  compOpen := by simp [hdev]
  compStopped := by simp [hdev, hphase]
  lockClosed := by simp [hdev]
  drainMode := by simpa [hcapt] using h.drainMode

/-- The fatal fault of a device that is not OPEN (spec/44_device.md R221). -/
theorem LifeInv.of_fatal {s t : State} (h : LifeInv s) (hlife : t.life = { s.life with fatal := true })
    (hdev : s.life.dev ≠ .opened) (hcapt : t.capt = s.capt) : LifeInv t := by
  obtain ⟨closing, -, drainClosed, drainJoined, compOpen, compStopped, lockClosed, drainMode⟩ := h
  constructor <;> simp only [hlife, hcapt] <;> try assumption
  case fatal => exact fun _ => hdev

/-! ## The calibrator's part -/

/-- The calibrator's part reads the calibrator, whether the lock is CAL, and whether a run's device is OPEN. -/
theorem CalInv.congr {s t : State} (h : CalInv s) (hcal : t.cal = s.cal)
    (hlock : t.life.lock = .cal ↔ s.life.lock = .cal) (hdev : s.cal.running = true → t.life.dev = .opened) :
    CalInv t := by
  obtain ⟨lock, -, phaseNone, phaseBias, count, scale, shots, biasTap, search, fit, results⟩ := h
  constructor <;> simp only [hcal, hlock] <;> assumption

/-- The calibrator's part with no run in progress. -/
theorem CalInv.of_not_running {t : State} (hrun : t.cal.running = false) (hphase : t.cal.phase = .none)
    (hlock : t.life.lock ≠ .cal) (hres : ∀ ch, (t.cal.res.get ch).tap.toNat + 1 ≤ Config.tapMax) : CalInv t where
  lock := by simp [hrun, hlock]
  opened := by simp [hrun]
  phaseNone := by simp [hrun, hphase]
  phaseBias := by
    have hfsm : t.cal.fsm ≠ .measuringBias := fun hf => by simp [running_iff.mpr (.inl hf)] at hrun
    simp [hphase, hfsm]
  count := by simp [hrun]
  scale := by simp [hrun]
  shots := by simp [hrun]
  biasTap := by simp [hphase]
  search := by simp [hphase]
  fit := by simp [hphase]
  results := hres

/-- A rejected or aborted calibration keeps the part as it stands: it does not read the error code. -/
theorem CalInv.withErr {s : State} (h : CalInv s) (code : ErrCode) :
    CalInv { s with cal := { s.cal with err := code } } :=
  ⟨h.lock, h.opened, h.phaseNone, h.phaseBias, h.count, h.scale, h.shots, h.biasTap, h.search, h.fit, h.results⟩

theorem zeroResult_tap (ch : Chan) : ((Quad.all CalResult.zero).get ch).tap.toNat + 1 ≤ Config.tapMax := by
  cases ch <;> decide

theorem CalInv.lock_ne_cal {s : State} (h : CalInv s) (hrun : s.cal.running = false) : s.life.lock ≠ .cal :=
  fun hlock => by simp [h.lock.mpr hlock] at hrun

theorem CalInv.not_running {s : State} (h : CalInv s) (hdev : s.life.dev ≠ .opened) : s.cal.running = false :=
  Bool.eq_false_iff.mpr fun hrun => hdev (h.opened hrun)

/-- The repeat count of a run is not 0 (spec/43_calibrator.md R180). -/
theorem CalInv.nL_ne_zero {s : State} (h : CalInv s) (hrun : s.cal.running = true) : s.cal.nL ≠ 0#32 := by
  intro hzero
  have hpow := (h.count hrun).1
  rw [hzero] at hpow
  cases hpow

/-- The bounds after a midpoint (spec/43_calibrator.md R189 to R191): still apart, at most half the gap and one half more. -/
theorem moveBound_bounds {c : Calibrator} (avg : BitVec 64) (hhigh : c.high.toNat ≤ Config.tapMax)
    (hgap : c.low.toNat + 1 < c.high.toNat) (htap : c.curTap = midTap c.low c.high) :
    (c.moveBound avg).high.toNat ≤ Config.tapMax ∧ (c.moveBound avg).low.toNat < (c.moveBound avg).high.toNat ∧
      2 * ((c.moveBound avg).high.toNat - (c.moveBound avg).low.toNat) ≤ c.high.toNat - c.low.toNat + 1 := by
  obtain ⟨hlo, hhi, hmid⟩ := midTap_between hhigh hgap
  unfold Calibrator.moveBound
  split <;> dsimp only <;> rw [htap] <;> omega

/-- The bounds of a search in progress (spec/43_calibrator.md R182, R190, R191). -/
def Calibrator.SearchBounds (c : Calibrator) : Prop :=
  c.high.toNat ≤ Config.tapMax ∧ c.low.toNat + 1 < c.high.toNat ∧ c.curTap = midTap c.low c.high ∧
    c.iter.toNat < 10 ∧ c.high.toNat - c.low.toNat ≤ 2 ^ (10 - c.iter.toNat)

/-- The bounds of a finished search (spec/43_calibrator.md R189, R191). -/
def Calibrator.FitBounds (c : Calibrator) : Prop :=
  c.high.toNat ≤ Config.tapMax ∧ c.high.toNat = c.low.toNat + 1 ∧ c.iter.toNat ≤ 10

/-- The parameters a run latched, and the results, are the same (spec/43_calibrator.md R177). -/
structure SameRun (c d : Calibrator) : Prop where
  nL : d.nL = c.nL
  denL : d.denL = c.denL
  binL : d.binL = c.binL
  waitL : d.waitL = c.waitL
  res : d.res = c.res

theorem moveBound_sameRun (avg : BitVec 64) (c : Calibrator) : SameRun c (c.moveBound avg) := by
  unfold Calibrator.moveBound
  split <;> exact ⟨rfl, rfl, rfl, rfl, rfl⟩

/-- A moved bound counts one midpoint (spec/43_calibrator.md R189). -/
theorem moveBound_frame (avg : BitVec 64) (c : Calibrator) :
    (c.moveBound avg).iter = c.iter + 1#32 ∧ (c.moveBound avg).fsm = c.fsm ∧ (c.moveBound avg).phase = c.phase ∧
      (c.moveBound avg).shotCount = c.shotCount := by
  unfold Calibrator.moveBound
  split <;> exact ⟨rfl, rfl, rfl, rfl⟩

theorem searchDone_sameRun (avg : BitVec 64) (c : Calibrator) : SameRun c (c.searchDone avg) := by
  obtain ⟨nL, denL, binL, waitL, res⟩ := moveBound_sameRun avg c
  unfold Calibrator.searchDone
  dsimp only
  split <;> exact ⟨nL, denL, binL, waitL, res⟩

/-- A search update stays in the search's state and counts no shot (spec/43_calibrator.md R189). -/
theorem searchDone_frame (avg : BitVec 64) (c : Calibrator) :
    (c.searchDone avg).fsm = c.fsm ∧ (c.searchDone avg).shotCount.toNat ≤ c.shotCount.toNat := by
  obtain ⟨-, hfsm, -, hshots⟩ := moveBound_frame avg c
  unfold Calibrator.searchDone
  dsimp only
  split
  · exact ⟨hfsm, (congrArg BitVec.toNat hshots).le⟩
  · exact ⟨hfsm, Nat.zero_le _⟩

/-- A search update ends the search on bounds that are 1 apart, or goes on to their midpoint; the gap is halved each time,
so the tenth midpoint is the last (spec/43_calibrator.md R189 to R191). -/
theorem searchDone_bounds {c : Calibrator} (hphase : c.phase = .search) (h : c.SearchBounds) (avg : BitVec 64) :
    ((c.searchDone avg).phase = .fit ∧ (c.searchDone avg).FitBounds) ∨
      ((c.searchDone avg).phase = .search ∧ (c.searchDone avg).SearchBounds) := by
  obtain ⟨hhigh, hgap, htap, hiter, hpow⟩ := h
  obtain ⟨hhigh', hlow', hhalf⟩ := moveBound_bounds avg hhigh hgap htap
  obtain ⟨hcount, -, hphase', -⟩ := moveBound_frame avg c
  have hnext : (c.moveBound avg).iter.toNat = c.iter.toNat + 1 := by
    rw [hcount, BitVec.toNat_add, BitVec.toNat_ofNat]
    omega
  have hdouble : 2 ^ (10 - c.iter.toNat) = 2 * 2 ^ (10 - (c.moveBound avg).iter.toNat) := by
    rw [← pow_succ', hnext]
    congr 1
    omega
  unfold Calibrator.searchDone
  dsimp only
  split
  case isTrue hone =>
    refine .inl ⟨rfl, hhigh', ?_, ?_⟩ <;> dsimp only <;> omega
  case isFalse hapart =>
    have hmore : (c.moveBound avg).iter.toNat < 10 := by
      by_contra hten
      rw [Nat.sub_eq_zero_of_le (not_lt.mp hten)] at hdouble
      omega
    refine .inr ⟨hphase'.trans hphase, hhigh', ?_, rfl, hmore, ?_⟩ <;> dsimp only [Calibrator.beginPoint] <;> omega

/-- The calibrator's part in a run that searches: the run's parameters, the lock and the device are as they were. -/
theorem CalInv.of_searching {s t : State} (h : CalInv s) (hrun : s.cal.running = true) (hlife : t.life = s.life)
    (k : SameRun s.cal t.cal) (hfsm : t.cal.fsm = .binarySearching) (hshots : t.cal.shotCount.toNat ≤ s.cal.nL.toNat)
    (hbounds : (t.cal.phase = .fit ∧ t.cal.FitBounds) ∨ (t.cal.phase = .search ∧ t.cal.SearchBounds)) : CalInv t := by
  have hrun' : t.cal.running = true := running_iff.mpr (.inr hfsm)
  have hphase : t.cal.phase = .fit ∨ t.cal.phase = .search := hbounds.imp And.left And.left
  refine ⟨?lock, ?opened, ?phaseNone, ?phaseBias, ?count, ?scale, ?shots, ?biasTap, ?search, ?fit, ?results⟩
  case lock => exact iff_of_true hrun' (by rw [hlife]; exact h.lock.mp hrun)
  case opened => exact fun _ => by rw [hlife]; exact h.opened hrun
  case phaseNone => rcases hphase with hp | hp <;> simp [hp, hrun']
  case phaseBias => rcases hphase with hp | hp <;> simp [hp, hfsm]
  case count => exact fun _ => k.nL ▸ h.count hrun
  case scale => exact fun _ => by rw [k.denL, k.binL, k.waitL]; exact h.scale hrun
  case shots => exact fun _ => k.nL ▸ hshots
  case biasTap => rcases hphase with hp | hp <;> simp [hp]
  case search =>
    rcases hbounds with ⟨hp, -⟩ | ⟨-, hb⟩
    · simp [hp]
    · exact fun _ => hb
  case fit =>
    rcases hbounds with ⟨-, hb⟩ | ⟨hp, -⟩
    · exact fun _ => hb
    · simp [hp]
  case results => exact k.res ▸ h.results

/-! ## The drainer, the deliverer and the lifecycle agent -/

/-- Moves of the drainer that leave the ring alone keep the invariant. -/
theorem Inv.drain {s t : State} (h : Inv s) (hring : t.ring = s.ring) (hlife : t.life = s.life) (hcal : t.cal = s.cal)
    (hdrain : t.capt.dr ≠ .idle → (s.capt.dr ≠ .idle ∨ s.life.dev = .opened) ∧ t.capt.drCtx = t.capt.mode) : Inv t where
  ring := h.ring.congr hring (by rw [hlife])
  life := h.life.drain hlife hdrain
  cal := h.cal.congr hcal (by rw [hlife]) (by rw [hlife]; exact h.cal.opened)

/-- The fields of a tuple are cut to the domain of `Normalize` (spec/20_memory.md R67, spec/40_timevalue.md R111). -/
theorem CardTuple.sample_isRaw (p : CardTuple) : p.sample.isRaw = true := by
  have hcoarse := (p.coarse.extractLsb' 0 28).isLt
  have hfrac := (p.frac.extractLsb' 0 12).isLt
  rw [isRaw_iff]
  simp only [CardTuple.sample, BitVec.toNat_setWidth]
  omega

theorem readTuple_isRaw (s : State) : s.readTuple.1.isRaw = true := CardTuple.sample_isRaw _

/-- The end of a drain (spec/42_capture.md R151, R152): it is not enabled and holds, or after its transactions the drain
ends, or goes on in interrupt context. -/
theorem execCapDrainFinish_cases {s t : State} (h : execCapDrainFinish s = .next t) :
    t = s ∨ (s.capt.dr = .finish ∧ ∃ u, SameBlock s u ∧
      (t = u.endDrain ∨ t = { u with capt := { u.capt with dr := .active } })) := by
  unfold execCapDrainFinish at h
  dsimp only at h
  split at h
  · rename_i hdr
    split at h
    · cases h
      exact .inr ⟨hdr, s, .refl s, .inl rfl⟩
    · have k := (dwrite_sameBlock .irqAck 1#32 s).trans (dread_sameBlock .fifoCsr _)
      split at h <;> cases h
      · exact .inr ⟨hdr, _, k, .inl rfl⟩
      · exact .inr ⟨hdr, _, k, .inr rfl⟩
  · cases h; exact .inl rfl

/-- The stop of capture (spec/44_device.md R219): it is not enabled and holds, or the teardown goes on once the drainer is
idle. -/
theorem execLcStopCapture_cases {s t : State} (h : execLcStopCapture s = .next t) :
    t = s ∨ (s.life.dev = .closing ∧ s.life.phase = .stopCapture ∧ s.capt.dr = .idle ∧ ∃ u, SameBlock s u ∧
      t = { u with life := { u.life with phase := .stopComp } }) := by
  unfold execLcStopCapture at h
  split at h
  · rename_i hen
    cases h
    refine .inr ⟨hen.1, hen.2.1, hen.2.2, _, ?_, rfl⟩
    split
    · exact dwrite_sameBlock .irqEn 0#32 s
    · exact .refl s
  · cases h; exact .inl rfl

/-- The start of a drain, by a tick or by the interrupt (spec/42_capture.md R149, R150). -/
theorem Inv.startDrain {s : State} (h : Inv s) {ctx : CapMode} (hdev : s.life.dev = .opened)
    (hmode : s.capt.mode = ctx) : Inv (s.startDrain ctx) :=
  h.drain rfl rfl rfl fun _ => ⟨.inr hdev, hmode.symm⟩

theorem Inv.capTick {s t : State} (h : Inv s) (hx : execCapTick s = .next t) : Inv t := by
  unfold execCapTick at hx
  split at hx <;> cases hx
  · rename_i hen
    exact h.startDrain hen.1 hen.2.1
  · exact h

theorem Inv.capIrq {s t : State} (h : Inv s) (hx : execCapIrq s = .next t) : Inv t := by
  unfold execCapIrq at hx
  split at hx <;> cases hx
  · rename_i hen
    exact h.startDrain hen.2.1 hen.2.2.1
  · exact h

theorem Inv.capDrainStep {s t : State} (h : Inv s) (hx : execCapDrainStep s = .next t) : Inv t := by
  rcases execCapDrainStep_cases hx with rfl | ⟨hdr, u, rfl, ⟨-, rfl⟩ | ⟨-, v, hv, rfl⟩⟩
  · exact h
  · have k := dread_sameBlock .fifoCsr s
    have hu := h.sameBlock k
    have hne : (s.dread .fifoCsr).2.capt.dr ≠ .idle := by simp [k.capt, hdr]
    exact hu.drain rfl rfl rfl fun _ => ⟨.inl hne, hu.life.drainMode hne⟩
  · have k := (dread_sameBlock .fifoCsr s).trans (readTuple_sameBlock _)
    have hw := h.sameBlock k
    have hne : (s.dread .fifoCsr).2.readTuple.2.capt.dr ≠ .idle := by simp [k.capt, hdr]
    have hmode := hw.life.drainMode hne
    obtain ⟨c, hcap, -, rfl⟩ := ringPush?_some hv
    have hlife := noteDrop_life { (s.dread .fifoCsr).2.readTuple.2 with
      ring := (s.dread .fifoCsr).2.readTuple.2.ring.push c (s.dread .fifoCsr).2.readTuple.1 }
    exact {
      ring := hw.ring.push hcap (readTuple_isRaw _) (noteDrop_ring _) hlife
      life := hw.life.drain hlife fun _ => ⟨.inl hne, by simpa using hmode⟩
      cal := hw.cal.congr (noteDrop_cal _) (by rw [hlife]) (by rw [hlife]; exact hw.cal.opened) }

theorem Inv.capDrainFinish {s t : State} (h : Inv s) (hx : execCapDrainFinish s = .next t) : Inv t := by
  rcases execCapDrainFinish_cases hx with rfl | ⟨hdr, u, k, rfl | rfl⟩
  · exact h
  · exact (h.sameBlock k).drain rfl rfl rfl fun hne => absurd rfl hne
  · have hne : u.capt.dr ≠ .idle := by simp [k.capt, hdr]
    exact (h.sameBlock k).drain rfl rfl rfl fun _ => ⟨.inl hne, (h.sameBlock k).life.drainMode hne⟩

theorem Inv.capDeliver {s t : State} (h : Inv s) (hx : execCapDeliver s = .next t) : Inv t := by
  rcases execCapDeliver_cases hx with rfl | ⟨-, -, x, r, hpop, -, rfl⟩
  · exact h
  · exact {
      ring := h.ring.pop hpop rfl rfl
      life := h.life.drain rfl fun hne => ⟨.inl hne, h.life.drainMode hne⟩
      cal := h.cal.congr rfl Iff.rfl h.cal.opened }

/-- The teardown passes the drainer's join (spec/44_device.md R219). -/
theorem Inv.lcStopCapture {s t : State} (h : Inv s) (hx : execLcStopCapture s = .next t) : Inv t := by
  rcases execLcStopCapture_cases hx with rfl | ⟨hdev, -, hdr, u, k, rfl⟩
  · exact h
  have hu := h.sameBlock k
  rw [← k.life] at hdev
  rw [← k.capt] at hdr
  exact {
    ring := hu.ring.congr rfl Iff.rfl
    cal := hu.cal.congr rfl Iff.rfl hu.cal.opened
    life := {
      closing := by simp [hdev]
      fatal := hu.life.fatal
      drainClosed := hu.life.drainClosed
      drainJoined := fun _ => hdr
      compOpen := hu.life.compOpen
      compStopped := by simp [hdev]
      lockClosed := hu.life.lockClosed
      drainMode := hu.life.drainMode } }

/-- The teardown stops the compensator's timer (spec/44_device.md R219). -/
theorem Inv.lcStopComp {s t : State} (h : Inv s) (hx : execLcStopComp s = .next t) : Inv t := by
  unfold execLcStopComp at hx
  split at hx <;> cases hx
  · rename_i hen
    obtain ⟨hdev, hphase⟩ := hen
    exact {
      ring := h.ring.congr rfl Iff.rfl
      cal := h.cal.congr rfl Iff.rfl h.cal.opened
      life := {
        closing := by simp [hdev]
        fatal := h.life.fatal
        drainClosed := h.life.drainClosed
        drainJoined := fun _ => h.life.drainJoined (.inl hphase)
        compOpen := by simp [hdev]
        compStopped := fun _ => rfl
        lockClosed := h.life.lockClosed
        drainMode := h.life.drainMode } }
  · exact h

/-- The release of the storage (spec/44_device.md R219): the lock is FREE, since no run is in progress outside OPEN. -/
theorem Inv.lcRelease {s t : State} (h : Inv s) (hx : execLcRelease s = .next t) : Inv t := by
  unfold execLcRelease at hx
  split at hx <;> cases hx
  · rename_i hen
    obtain ⟨hdev, hphase, hcomp⟩ := hen
    have hrun := h.cal.not_running (by simp [hdev])
    have hdr := h.life.drainJoined (.inr hphase)
    have hfree : s.life.lock = .free := by
      cases hl : s.life.lock with
      | free => rfl
      | cal => exact absurd hl (h.cal.lock_ne_cal hrun)
      | comp => exact absurd hl hcomp
    exact {
      ring := .of_absent rfl rfl rfl
      cal := h.cal.congr rfl Iff.rfl (by simp [hrun])
      life := {
        closing := by simp
        fatal := by simp
        drainClosed := fun _ => hdr
        drainJoined := fun _ => hdr
        compOpen := by simp
        compStopped := fun _ => h.life.compStopped (.inl hphase)
        lockClosed := fun _ => hfree
        drainMode := h.life.drainMode } }
  · exact h

/-! ## The commands -/

/-- `dev.open` before the interrupt is enabled (spec/44_device.md R216): an empty ring of a legal capacity, an idle drainer
and calibrator, and no results. -/
theorem Inv.openDevice {s : State} (h : Inv s) (hfatal : s.life.fatal = false) (hdev : s.life.dev = .closed)
    (hcap : ringCapOk s.cfg.rbCap = true) : Inv s.openDevice := by
  have hlegal := ringCapOk_legal hcap
  have htwo := hlegal.2.1
  have hlock := h.life.lockClosed hdev
  have hphase : s.life.phase = .none := by
    by_contra hp
    rw [h.life.closing.mpr hp] at hdev
    cases hdev
  have hcalPhase := h.cal.phaseNone.mpr (h.cal.not_running (by simp [hdev]))
  have hempty : s.openDevice.ring.occupancy.toNat = 0 := Ring.occupancy_eq_zero.mpr rfl
  exact {
    ring := by
      refine .of_storage (c := s.cfg.rbCap.setWidth 64) rfl (by simp) (by simp) (by simp) hlegal (by omega) ?_
      rw [List.eq_nil_of_length_eq_zero ((Ring.contents_length _ _).trans hempty)]
      simp
    cal := .of_not_running rfl hcalPhase (by simp [hlock]) zeroResult_tap
    life := {
      closing := by simp [hphase]
      fatal := by simp [hfatal]
      drainClosed := by simp
      drainJoined := by simp
      compOpen := by simp
      compStopped := by simp [hphase]
      lockClosed := by simp
      drainMode := by simp } }

theorem Inv.devOpen {s t : State} (h : Inv s) (hx : execDevOpen s = .next t) : Inv t := by
  rcases execDevOpen_cases hx with ⟨code, rfl⟩ | ⟨hfatal, hdev, hcap, hmode⟩
  · exact h.congr rfl rfl rfl rfl rfl rfl
  have hopen := h.openDevice hfatal hdev hcap
  rcases hmode with ⟨-, rfl⟩ | ⟨hirq, rfl⟩
  · exact hopen.congr rfl rfl rfl rfl rfl rfl
  · exact hopen.drain rfl rfl rfl fun _ => ⟨.inr rfl, hirq.symm⟩

theorem Inv.devClose {s t : State} (h : Inv s) (hx : execDevClose s = .next t) : Inv t := by
  rcases execDevClose_cases hx with ⟨code, rfl⟩ | ⟨hdev, hrun, rfl⟩
  · exact h.congr rfl rfl rfl rfl rfl rfl
  · exact {
      ring := h.ring.congr rfl (by simp [hdev])
      life := h.life.of_closing rfl rfl rfl
      cal := h.cal.congr rfl Iff.rfl (by simp [hrun]) }

/-- The fatal teardown keeps the invariant outside a run (spec/44_device.md R221). -/
theorem Inv.fatalTeardown {s : State} (h : Inv s) (hrun : s.cal.running = false) : Inv s.fatalTeardown := by
  rcases fatalTeardown_cases s with ⟨hdev, ht⟩ | ⟨hdev, ht⟩ <;> rw [ht]
  · exact {
      ring := h.ring.congr rfl (by simp [hdev])
      life := h.life.of_closing rfl rfl rfl
      cal := h.cal.congr rfl Iff.rfl (by simp [hrun]) }
  · exact {
      ring := h.ring.congr rfl Iff.rfl
      life := h.life.of_fatal rfl hdev rfl
      cal := h.cal.congr rfl Iff.rfl (by simp [hrun]) }

/-- The parameters `cal.start` accepts (spec/43_calibrator.md R180). -/
theorem calOk_params {c : HostCfg} (h : c.calOk = true) :
    (2 ^ c.calN.toNat.log2 = c.calN.toNat ∧ c.calN.toNat ≤ 2 ^ Config.calNMaxLog2) ∧
      c.scaleDen ≠ 0#32 ∧ c.binFp ≠ 0#32 ∧ c.waitMax ≠ 0#32 := by
  simp only [HostCfg.calOk, isPow2, Bool.and_eq_true, decide_eq_true_eq, bne_iff_ne, ne_eq] at h
  obtain ⟨⟨⟨hcount, hden⟩, hbin⟩, hwait⟩ := h
  exact ⟨hcount, hden, hbin, hwait⟩

/-- During a run `cal.start` is rejected (spec/43_calibrator.md R180, spec/60_exceptions.md R238). -/
theorem execCalStart_running {s : State} (hrun : s.cal.running = true) (ch : BitVec 4) :
    ∃ code, execCalStart ch s = .next (s.setErr code opcCalStart) := by
  simp only [execCalStart, hrun, if_true]
  split <;> exact ⟨_, rfl⟩

/-- A run starts with the lock, at tap 0 and with parameters that are accepted (spec/43_calibrator.md R180, R181). -/
theorem CalInv.started {s t : State} (h : CalInv s) {ch : Chan} (hok : s.cfg.calOk = true)
    (hcal : t.cal = s.cal.started s.cfg ch) (hlock : t.life.lock = .cal) (hdev : t.life.dev = .opened) : CalInv t := by
  obtain ⟨hcount, hscale⟩ := calOk_params hok
  refine ⟨?_, fun _ => hdev, ?_, ?_, ?_, ?_, ?_, ?_, ?_, ?_, ?_⟩ <;> rw [hcal]
  · exact iff_of_true rfl hlock
  · exact iff_of_false nofun nofun
  · exact iff_of_true rfl rfl
  · exact fun _ => hcount
  · exact fun _ => hscale
  · exact fun _ => Nat.zero_le _
  · exact fun _ => ⟨rfl, rfl⟩
  · exact nofun
  · exact nofun
  · exact h.results

theorem Inv.calStart {s t : State} {ch : BitVec 4} (h : Inv s) (hx : execCalStart ch s = .next t) : Inv t := by
  by_cases hrun : s.cal.running = true
  · obtain ⟨code, hbusy⟩ := execCalStart_running hrun ch
    rw [hbusy] at hx
    cases hx
    exact h.congr rfl rfl rfl rfl rfl rfl
  rcases execCalStart_cases hx with ⟨code, rfl⟩ | rfl | ⟨-, -, hdev, -, hok, c, -, rfl⟩
  · exact h.congr rfl rfl rfl rfl rfl rfl
  · have herr : Inv { s with cal := { s.cal with err := .hwFault } } :=
      ⟨h.ring.congr rfl Iff.rfl, h.life.withLock (l := s.life.lock) rfl rfl h.life.lockClosed, h.cal.withErr _⟩
    exact (herr.fatalTeardown (Bool.eq_false_iff.mpr hrun)).congr rfl rfl rfl rfl rfl rfl
  · exact {
      ring := h.ring.congr rfl Iff.rfl
      life := h.life.withLock (l := .cal) rfl rfl (by simp [hdev])
      cal := h.cal.started hok rfl rfl hdev }

/-! ## The calibrator's operations -/

/-- A run that ends frees the lock; it was OPEN, so nothing else of the lifecycle moves (spec/43_calibrator.md R195,
R197). -/
theorem Inv.runEnds {s t : State} (h : Inv s) (hring : t.ring = s.ring) (hcapt : t.capt = s.capt)
    (hlife : t.life = { s.life with lock := .free }) (hrun : t.cal.running = false) (hphase : t.cal.phase = .none)
    (hres : ∀ ch, (t.cal.res.get ch).tap.toNat + 1 ≤ Config.tapMax) : Inv t where
  ring := h.ring.congr hring (by rw [hlife])
  life := h.life.withLock hlife hcapt fun _ => rfl
  cal := .of_not_running hrun hphase (by simp [hlife]) hres

/-- A shot that is taken counts up to the repeat count (spec/43_calibrator.md R184, R186). -/
theorem Inv.accumulate {s : State} (h : Inv s) (hshot : s.cal.shotCount.toNat < s.cal.nL.toNat) (v : BitVec 64) :
    Inv (s.accumulate v) where
  ring := h.ring.congr rfl Iff.rfl
  life := h.life.drain rfl fun hne => ⟨.inl hne, h.life.drainMode hne⟩
  cal := {
    lock := h.cal.lock
    opened := h.cal.opened
    phaseNone := h.cal.phaseNone
    phaseBias := h.cal.phaseBias
    count := h.cal.count
    scale := h.cal.scale
    shots := fun _ => by
      rw [accumulate_shotCount, accumulate_cal_nL, BitVec.toNat_add]
      exact (Nat.mod_le _ _).trans hshot
    biasTap := h.cal.biasTap
    search := h.cal.search
    fit := h.cal.fit
    results := h.cal.results }

theorem shotEnabled_shots {c : Calibrator} (h : c.shotEnabled = true) : c.shotCount.toNat < c.nL.toNat := by
  simp only [Calibrator.shotEnabled, Bool.and_eq_true, decide_eq_true_eq] at h
  exact h.2

theorem Inv.calShot {s t : State} (h : Inv s) (hx : execCalShot s = .next t) : Inv t := by
  rcases execCalShot_cases hx with rfl | ⟨hen, o, u, -, k, ⟨code, -, rfl⟩ | ⟨raw, v, -, -, -, rfl⟩⟩
  · exact h
  · exact (h.sameBlock k).runEnds rfl rfl rfl rfl rfl (h.sameBlock k).cal.results
  · have hu : Inv (u.noteOvf (outsideS64 v)) := (h.sameBlock k).congr rfl rfl rfl rfl rfl rfl
    exact hu.accumulate (by simpa [k.cal] using shotEnabled_shots hen) _

/-- A run is in progress in the phases BIAS and SEARCH (spec/43_calibrator.md R187). -/
theorem CalInv.running_of_phase {s : State} (h : CalInv s) (hphase : s.cal.phase ≠ .none) : s.cal.running = true := by
  by_contra hrun
  exact hphase (h.phaseNone.mpr (Bool.eq_false_iff.mpr hrun))

/-- Completing the bias begins the search over the whole range of taps (spec/43_calibrator.md R188). -/
theorem CalInv.biasDone {s : State} (h : CalInv s) (hphase : s.cal.phase = .bias) (avg : BitVec 64) :
    CalInv { s with cal := s.cal.biasDone avg } := by
  have hrun := h.running_of_phase (by simp [hphase])
  have hiter := (h.biasTap hphase).2
  have hbounds : (s.cal.biasDone avg).SearchBounds := by
    simp [Calibrator.SearchBounds, Calibrator.biasDone, Calibrator.beginPoint, hiter]
  exact h.of_searching hrun rfl ⟨rfl, rfl, rfl, rfl, rfl⟩ rfl (Nat.zero_le _) (.inr ⟨rfl, hbounds⟩)

/-- A midpoint moves a bound (spec/43_calibrator.md R189). -/
theorem CalInv.searchDone {s : State} (h : CalInv s) (hphase : s.cal.phase = .search) (avg : BitVec 64) :
    CalInv { s with cal := s.cal.searchDone avg } := by
  have hrun := h.running_of_phase (by simp [hphase])
  have hfsm : s.cal.fsm = .binarySearching := (running_iff.mp hrun).resolve_left fun hf => by
    rw [h.phaseBias.mpr hf] at hphase
    cases hphase
  obtain ⟨hfsm', hshots⟩ := searchDone_frame avg s.cal
  exact h.of_searching hrun rfl (searchDone_sameRun avg s.cal) (hfsm'.trans hfsm) (hshots.trans (h.shots hrun))
    (searchDone_bounds hphase (h.search hphase) avg)

theorem Inv.calPoint {s t : State} (h : Inv s) (hx : execCalPoint s = .next t) : Inv t := by
  have hring {c : Calibrator} : RingInv { s with cal := c } := h.ring.congr rfl Iff.rfl
  have hlife {c : Calibrator} : LifeInv { s with cal := c } :=
    h.life.withLock (l := s.life.lock) rfl rfl h.life.lockClosed
  rcases execCalPoint_cases hx with rfl | ⟨-, ⟨hphase, rfl⟩ | ⟨hphase, rfl⟩⟩
  · exact h
  · exact ⟨hring, hlife, h.cal.biasDone hphase _⟩
  · exact ⟨hring, hlife, h.cal.searchDone hphase _⟩

/-- The fit commits a tap below the upper bound (spec/43_calibrator.md R192, R195). -/
theorem Inv.calFit {s t : State} (h : Inv s) (hx : execCalFit s = .next t) : Inv t := by
  rcases execCalFit_cases hx with rfl | ⟨-, hphase, off, -, rfl⟩
  · exact h
  · refine h.runEnds rfl rfl rfl rfl rfl fun ch => ?_
    obtain ⟨hhigh, hgap, -⟩ := h.cal.fit hphase
    rw [commit_res, Quad.get_set]
    split
    · exact hgap ▸ hhigh
    · exact h.cal.results ch

/-! ## Every instruction a step runs -/

/-- The ring operations, which no step runs by themselves (spec/30_encoding.md R95, log 11). -/
def ringOp : Instr → Bool
  | .rbNew | .rbPush _ | .rbPop => true
  | _ => false

theorem drainerOp_ringOp (s : State) : ringOp (drainerOp s) = false := by
  unfold drainerOp
  cases s.capt.dr <;> rfl

theorem lifecycleOp_ringOp {s : State} {i : Instr} (h : lifecycleOp s = some i) : ringOp i = false := by
  unfold lifecycleOp at h
  cases hp : s.life.phase <;> simp only [hp] at h <;> cases h <;> rfl

theorem encode_ringOp {i : Instr} {w : Word} (h : encode i = some w) : ringOp i = false := by
  cases i with
  | rbNew | rbPush _ | rbPop => cases h
  | _ => rfl

theorem eventStep_run_ringOp {e : Event} {i : Instr} {s u : State} (h : eventStep e s = .run i u) :
    ringOp i = false := by
  rcases eventStep_run_cases h with ⟨w, -, hd, -⟩ | ⟨-, ⟨-, rfl⟩ | ⟨-, rfl⟩ | ⟨-, rfl⟩ | ⟨-, hl⟩ | ⟨-, rfl⟩⟩
  · obtain ⟨v, hv⟩ := decode_encodes hd
    exact encode_ringOp hv
  · exact drainerOp_ringOp s
  · rfl
  · rcases calibratorOp_cases s with hc | hc | hc <;> rw [hc] <;> rfl
  · exact lifecycleOp_ringOp hl
  · rfl

/-- Every instruction that a step runs keeps the invariant. -/
theorem Inv.exec {i : Instr} {s t : State} (h : Inv s) (hi : ringOp i = false) (hx : exec i s = .next t) : Inv t := by
  cases i with
  | nop | tvP2t => cases hx; exact h.congr rfl rfl rfl rfl rfl rfl
  | tvNorm | tvAdd | tvSub | tvT2p =>
    simp only [Machine.exec, execTvNorm, execTvAdd, execTvSub, execTvT2p] at hx
    split at hx <;> cases hx <;> exact h.congr rfl rfl rfl rfl rfl rfl
  | devOpen => exact h.devOpen hx
  | devClose => exact h.devClose hx
  | calStart ch => exact h.calStart hx
  | capTick => exact h.capTick hx
  | capIrq => exact h.capIrq hx
  | capDrainStep => exact h.capDrainStep hx
  | capDrainFinish => exact h.capDrainFinish hx
  | capDeliver => exact h.capDeliver hx
  | calShot => exact h.calShot hx
  | calPoint => exact h.calPoint hx
  | calFit => exact h.calFit hx
  | lcStopCapture => exact h.lcStopCapture hx
  | lcStopComp => exact h.lcStopComp hx
  | lcRelease => exact h.lcRelease hx
  | rbNew | rbPush _ | rbPop => cases hi

/-! ## No such instruction stops -/

/-- A drain runs only where storage exists (spec/41_ringbuffer.md R139, spec/42_capture.md R146). -/
theorem Inv.capDrainStep_answers {s : State} (h : Inv s) : ∃ t, execCapDrainStep s = .next t := by
  unfold execCapDrainStep
  split
  · rename_i hdr
    have hdev : s.life.dev ≠ .closed := fun hdev => by simp [h.life.drainClosed hdev] at hdr
    obtain ⟨c, hcap⟩ := h.ring.exists_storage hdev
    have k := (dread_sameBlock .fifoCsr s).trans (readTuple_sameBlock _)
    rw [← k.ring] at hcap
    dsimp only
    rw [ringPush?_of_storage hcap (((h.sameBlock k).ring.legal c hcap).ne_zero)]
    split <;> exact ⟨_, rfl⟩
  · exact ⟨_, rfl⟩

/-- A delivery pops a raw sample from a slot that is written (spec/10_state.md R51, spec/40_timevalue.md R111). -/
theorem Inv.capDeliver_answers {s : State} (h : Inv s) : ∃ t, execCapDeliver s = .next t := by
  unfold execCapDeliver
  split
  · rename_i hen
    obtain ⟨c, hcap⟩ := h.ring.exists_storage (by simp [hen.1])
    obtain ⟨x, hraw, hpop⟩ := h.ring.pop_answers hcap hen.2.symm
    simp only [hpop, if_pos hraw]
    exact ⟨_, rfl⟩
  · exact ⟨_, rfl⟩

/-- A shot divides by the latched scale, which is not 0 (spec/43_calibrator.md R180). -/
theorem Inv.calShot_answers {s : State} (h : Inv s) : ∃ t, execCalShot s = .next t := by
  unfold execCalShot
  split
  · rename_i hen
    have k := (armShot_sameBlock s).trans (tdcWait_sameBlock s.cal.waitL.toNat s.armShot)
    split
    · exact ⟨_, rfl⟩
    · rename_i raw u hu
      rw [hu] at k
      rw [k.cal, if_neg (h.cal.scale (shotEnabled_running hen)).1]
      exact ⟨_, rfl⟩
  · exact ⟨_, rfl⟩

/-- A point divides by the latched repeat count, which is not 0 (spec/43_calibrator.md R180). -/
theorem Inv.calPoint_answers {s : State} (h : Inv s) : ∃ t, execCalPoint s = .next t := by
  unfold execCalPoint
  split
  · rename_i hen
    simp only [Calibrator.pointEnabled, Bool.and_eq_true] at hen
    rw [if_neg (h.cal.nL_ne_zero hen.1.1)]
    split <;> exact ⟨_, rfl⟩
  · exact ⟨_, rfl⟩

theorem execCalStart_answers (ch : BitVec 4) (s : State) : ∃ t, execCalStart ch s = .next t := by
  unfold execCalStart
  split
  · exact ⟨_, rfl⟩
  split
  · exact ⟨_, rfl⟩
  split
  · exact ⟨_, rfl⟩
  split
  · exact ⟨_, rfl⟩
  split
  · exact ⟨_, rfl⟩
  split <;> exact ⟨_, rfl⟩

theorem execDevOpen_answers (s : State) : ∃ t, execDevOpen s = .next t := by
  unfold execDevOpen
  split
  · exact ⟨_, rfl⟩
  split
  · exact ⟨_, rfl⟩
  split <;> exact ⟨_, rfl⟩

theorem execDevClose_answers (s : State) : ∃ t, execDevClose s = .next t := by
  unfold execDevClose
  split
  · exact ⟨_, rfl⟩
  · exact ⟨_, rfl⟩
  · split <;> exact ⟨_, rfl⟩

theorem execCapDrainFinish_answers (s : State) : ∃ t, execCapDrainFinish s = .next t := by
  unfold execCapDrainFinish
  split
  · split
    · exact ⟨_, rfl⟩
    · dsimp only
      split <;> exact ⟨_, rfl⟩
  · exact ⟨_, rfl⟩

/-- Under the invariant every instruction that a step runs answers a next state (log 14). -/
theorem Inv.exec_answers {i : Instr} {s : State} (h : Inv s) (hi : ringOp i = false) :
    ∃ t, Machine.exec i s = .next t := by
  cases i with
  | nop | tvP2t => exact ⟨_, rfl⟩
  | tvNorm | tvAdd | tvSub | tvT2p | capTick | capIrq | calFit | lcStopCapture | lcStopComp | lcRelease =>
    simp only [Machine.exec, execTvNorm, execTvAdd, execTvSub, execTvT2p, execCapTick, execCapIrq, execCalFit,
      execLcStopCapture, execLcStopComp, execLcRelease]
    split <;> exact ⟨_, rfl⟩
  | devOpen => exact execDevOpen_answers s
  | devClose => exact execDevClose_answers s
  | calStart ch => exact execCalStart_answers ch s
  | capDrainStep => exact h.capDrainStep_answers
  | capDrainFinish => exact execCapDrainFinish_answers s
  | capDeliver => exact h.capDeliver_answers
  | calShot => exact h.calShot_answers
  | calPoint => exact h.calPoint_answers
  | rbNew | rbPush _ | rbPop => cases hi

/-! ## Steps -/

/-- The invariant holds right after reset (spec/70_reset_and_hazards.md R266). -/
theorem inv_reset : Inv State.reset where
  ring := .of_absent rfl rfl rfl
  cal := .of_not_running rfl rfl (by simp [State.reset, State.resetWith]) zeroResult_tap
  life := by
    constructor <;> simp [State.reset, State.resetWith]

theorem Inv.compAcquire {s : State} (h : Inv s) : Inv s.compAcquire := by
  rcases compAcquire_cases s with hk | ⟨hfree, hcomp, hk⟩ <;> rw [hk]
  · exact h
  · exact {
      ring := h.ring.congr rfl Iff.rfl
      life := h.life.withLock (l := .comp) rfl rfl fun hdev => by simp [h.life.compStopped (.inr hdev)] at hcomp
      cal := h.cal.congr rfl (by simp [hfree]) h.cal.opened }

theorem Inv.compRelease {s : State} (h : Inv s) : Inv s.compRelease := by
  rcases compRelease_cases s with hk | ⟨hheld, hk⟩ <;> rw [hk]
  · exact h
  · exact {
      ring := h.ring.congr rfl Iff.rfl
      life := h.life.withLock (l := .free) rfl rfl fun _ => rfl
      cal := h.cal.congr rfl (by simp [hheld]) h.cal.opened }

theorem Inv.writeCsr {s : State} (h : Inv s) (w : Word) (r : Csr) : Inv (writeCsr s w r) := by
  cases r <;> exact h.congr rfl rfl rfl rfl rfl rfl

/-- A step finished at once keeps the invariant: reset restores it, the compensator moves the lock, and the rest leaves
what it reads. -/
theorem Inv.eventStep_done {e : Event} {s t : State} (h : Inv s) (he : eventStep e s = .done t) : Inv t := by
  cases e with
  | reset => cases he; exact inv_reset.congr rfl rfl rfl rfl rfl rfl
  | compAcquire => cases he; exact h.compAcquire
  | compRelease => cases he; exact h.compRelease
  | hostRead off =>
    cases he
    unfold State.hostRead
    split <;> exact h.congr rfl rfl rfl rfl rfl rfl
  | hostWrite off w =>
    rcases hostWrite_cases off w s with ⟨j, -, -, hw⟩ | hw | ⟨r, -, hw⟩ | hw <;> rw [eventStep, hw] at he <;> cases he
    · exact h.congr rfl rfl rfl rfl rfl rfl
    · exact h.writeCsr w r
    · exact h.congr rfl rfl rfl rfl rfl rfl
  | lifecycle =>
    cases hop : lifecycleOp s <;> simp only [eventStep, hop] at he <;> cases he
    exact h
  | compWrite ch w =>
    cases he
    unfold State.compWrite
    split <;> exact h.congr rfl rfl rfl rfl rfl rfl
  | envFifo _ | envInputs _ _ | envTdc _ | envFifoCsr _ => cases he; exact h.congr rfl rfl rfl rfl rfl rfl
  | drainer | deliverer | calibrator | envTick => cases he

/-- An instruction begins with what the invariant reads as its event found it. -/
theorem Inv.eventStep_run {e : Event} {i : Instr} {s u : State} (h : Inv s) (he : eventStep e s = .run i u) :
    Inv u := by
  rcases eventStep_run_cases he with ⟨w, -, -, rfl⟩ | ⟨rfl, -⟩
  · exact h.congr rfl rfl rfl rfl rfl rfl
  · exact h

/-- Settles O56: what the schedule's head is finished at once with, or the instruction it runs, which answers
(`Inv.exec_answers`) and keeps the invariant (`Inv.exec`). -/
theorem noStepStops : Obligations.NoStepStops := by
  intro s h
  cases hs : s.sched with
  | nil => exact ⟨s, step_of_sched_nil hs, h⟩
  | cons e rest =>
    have hbegin : Inv { s with sched := rest } := h.congr rfl rfl rfl rfl rfl rfl
    rw [step_of_sched_cons hs]
    cases he : eventStep e { s with sched := rest } with
    | run i u =>
      have hu := hbegin.eventStep_run he
      have hi := eventStep_run_ringOp he
      obtain ⟨t, ht⟩ := hu.exec_answers hi
      exact ⟨t, ht, hu.exec hi ht⟩
    | done t => exact ⟨t, rfl, hbegin.eventStep_done he⟩

/-- Settles O55: a step has one outcome, and `noStepStops` says that the invariant holds there. -/
theorem invKept : Obligations.InvKept := by
  intro s t h hst
  obtain ⟨u, hu, hinv⟩ := noStepStops s h
  rw [hst] at hu
  cases hu
  exact hinv

end Sys2Proof.Machine
end

section
/-! PROOFS. The drainer (spec/42_capture.md R146 to R152): what starts a drain, what one iteration and the finish do, and
that no step starts a drain outside OPEN. -/

namespace Sys2Proof.Machine

/-! ## The start of a drain -/

/-- A tick starts a drain when it is enabled (spec/42_capture.md R149). -/
theorem exec_capTick_enabled {s : State} (h : s.life.dev = .opened ∧ s.capt.mode = .poll ∧ s.capt.dr = .idle) :
    exec .capTick s = .next (s.startDrain .poll) :=
  if_pos h

/-- A tick that may not start a drain is discarded (spec/42_capture.md R149). -/
theorem exec_capTick_discarded {s : State} (h : ¬ (s.life.dev = .opened ∧ s.capt.mode = .poll ∧ s.capt.dr = .idle)) :
    exec .capTick s = .next s :=
  if_neg h

/-- A top-half that is not enabled holds (spec/42_capture.md R150, log 2). -/
theorem exec_capIrq_held {s : State}
    (h : ¬ (s.card.irqPend = true ∧ s.life.dev = .opened ∧ s.capt.mode = .irq ∧ s.capt.dr = .idle)) :
    exec .capIrq s = .next s :=
  if_neg h

/-- Settles O28: each operation by whether it is enabled. -/
theorem drainStarts : Obligations.DrainStarts := fun _ =>
  ⟨exec_capTick_enabled, exec_capTick_discarded,
    fun ⟨hpend, hdev, hmode, hdr⟩ => exec_capIrq_enabled hpend hdev hmode hdr, exec_capIrq_held⟩

/-! ## One iteration -/

/-- What a drain iteration makes of the words of a tuple (spec/20_memory.md R67). -/
theorem CardTuple.sample_fields (p : CardTuple) :
    p.sample.utc = p.utcHi ++ p.utcLo ∧ p.sample.coarse.toNat = p.coarse.toNat % 2 ^ 28 ∧
      p.sample.frac.toNat = p.frac.toNat % 4096 ∧ p.sample.channel.toNat = p.metaWord.toNat / 2 ^ 16 % 256 ∧
      p.sample.seq.toNat = p.metaWord.toNat % 2 ^ 16 := by
  simp only [CardTuple.sample, pairWord, BitVec.toNat_setWidth, BitVec.extractLsb'_toNat, Nat.shiftRight_eq_div_pow,
    Nat.pow_zero, Nat.div_one]
  refine ⟨trivial, ?_, ?_, trivial, trivial⟩ <;> omega

/-- The `FIFO_CSR` answer's EMPTY bit, by the FIFO (spec/20_memory.md R66). -/
theorem fifoCsr_of_nil {s : State} (h : s.card.fifo = []) : (s.dread .fifoCsr).1.getLsbD 0 = true := by
  rw [dread_fifoCsr_empty, h, List.isEmpty_nil]

theorem fifoCsr_of_ne_nil {s : State} (h : s.card.fifo ≠ []) : (s.dread .fifoCsr).1.getLsbD 0 = false := by
  rw [dread_fifoCsr_empty, List.isEmpty_eq_false_iff.mpr h]

/-- A drain iteration on an empty card FIFO: one `FIFO_CSR` read and FINISH (spec/42_capture.md R147). -/
theorem exec_capDrainStep_empty {s : State} (hdr : s.capt.dr = .active) (h : s.card.fifo = []) :
    exec .capDrainStep s = .next
      { s with
        capt := { s.capt with dr := .finish }
        port := s.port ++ [.read .fifoCsr (s.dread .fifoCsr).1] } := by
  simp only [exec, execCapDrainStep, if_pos hdr, if_pos (fifoCsr_of_nil h)]
  rfl

/-- The state in which a drain iteration pushes: the `FIFO_CSR` read and the five tuple reads are done, and the tuple p
has left the card FIFO q (spec/20_memory.md R67). -/
def State.tupleTaken (p : CardTuple) (q : List CardTuple) (s : State) : State :=
  { s with
    card := { s.card with fifo := q }
    port := s.port ++ [.read .fifoCsr (s.dread .fifoCsr).1, .read .fifoUtcHi p.utcHi, .read .fifoUtcLo p.utcLo,
      .read .fifoCoarse p.coarse, .read .fifoFrac p.frac, .read .fifoMeta p.metaWord] }

theorem dread_fifoCsr_readTuple {s : State} {p : CardTuple} {q : List CardTuple} (h : s.card.fifo = p :: q) :
    (s.dread .fifoCsr).2.readTuple = (p.sample, s.tupleTaken p q) := by
  obtain ⟨hsample, hstate⟩ := readTuple_cons (s := (s.dread .fifoCsr).2) h
  refine Prod.ext hsample (hstate.trans ?_)
  rw [dread_port, List.append_assoc]
  rfl

/-- A drain iteration with a head tuple pushes its sample (spec/42_capture.md R147). -/
theorem exec_capDrainStep_tuple {s : State} {p : CardTuple} {q : List CardTuple} {c : BitVec 64}
    (hdr : s.capt.dr = .active) (h : s.card.fifo = p :: q) (hcap : s.ring.cap = some c) (hc : c ≠ 0#64) :
    exec .capDrainStep s = .next
      { (s.tupleTaken p q).pushed c p.sample with
        capt :=
          { ((s.tupleTaken p q).pushed c p.sample).capt with
            drPushed := ((s.tupleTaken p q).pushed c p.sample).capt.drPushed + 1#64 } } := by
  have hne : s.card.fifo ≠ [] := by simp [h]
  have hpush := ringPush?_of_storage (s := s.tupleTaken p q) hcap hc p.sample
  simp only [exec, execCapDrainStep, if_pos hdr, fifoCsr_of_ne_nil hne, Bool.false_eq_true, if_false,
    dread_fifoCsr_readTuple h, hpush]

/-- Settles O29: by whether the card FIFO has a head tuple. -/
theorem drainStepReadsAndPushes : Obligations.DrainStepReadsAndPushes := by
  refine fun s hdr => ⟨fun hempty => ?empty, fun p q c hfifo hcap hc => ?tuple⟩
  case empty => exact ⟨_, fifoCsr_of_nil hempty, exec_capDrainStep_empty hdr hempty⟩
  case tuple =>
    obtain ⟨hutc, hcoarse, hfrac, hchannel, hseq⟩ := p.sample_fields
    exact ⟨_, p.sample, _, fifoCsr_of_ne_nil (by simp [hfifo]), hutc, hcoarse, hfrac, hchannel, hseq,
      exec_rbPush (s := s.tupleTaken p q) hcap hc p.sample, exec_capDrainStep_tuple hdr hfifo hcap hc⟩

/-! ## The finish -/

/-- The end of a drain (spec/42_capture.md R151, R152), with `dr_pushed` as a number. -/
theorem endDrain_eq (s : State) :
    s.endDrain =
      { s with capt := { s.capt with ready := s.capt.ready || decide (0 < s.capt.drPushed.toNat), dr := .idle } } := by
  have hpushed : (s.capt.drPushed != 0#64) = decide (0 < s.capt.drPushed.toNat) := by
    rw [Bool.eq_iff_iff, bne_iff_ne, decide_eq_true_eq]
    bv_omega
  rw [State.endDrain, hpushed]

/-- The state after the acknowledge and the re-check of `FIFO_CSR`, answered v (spec/42_capture.md R151). -/
def State.acknowledged (v : Word) (s : State) : State :=
  { s with
    card := { s.card with irqPend := false }
    port := s.port ++ [.write .irqAck 1#32, .read .fifoCsr v] }

theorem dwrite_irqAck_dread (s : State) :
    ((s.dwrite .irqAck 1#32).dread .fifoCsr).2 =
      s.acknowledged ((s.dwrite .irqAck 1#32).dread .fifoCsr).1 := by
  rw [dread_eq_with, dwrite_port, List.append_assoc]
  rfl

section Finish

variable {s : State} (hdr : s.capt.dr = .finish)
include hdr

theorem exec_capDrainFinish_poll (hctx : s.capt.drCtx = .poll) : exec .capDrainFinish s = .next s.endDrain := by
  simp only [exec, execCapDrainFinish, if_pos hdr, hctx]

/-- In interrupt context the re-check decides whether the drain ends (spec/42_capture.md R151). -/
theorem exec_capDrainFinish_irq (hctx : s.capt.drCtx = .irq) :
    ∃ v : Word, v.getLsbD 0 = s.card.fifo.isEmpty ∧
      exec .capDrainFinish s = .next
        (if s.card.fifo.isEmpty then (s.acknowledged v).endDrain
          else { s.acknowledged v with capt := { (s.acknowledged v).capt with dr := .active } }) := by
  have hcsr : ((s.dwrite .irqAck 1#32).dread .fifoCsr).1.getLsbD 0 = s.card.fifo.isEmpty :=
    dread_fifoCsr_empty (s.dwrite .irqAck 1#32)
  refine ⟨_, hcsr, ?_⟩
  simp only [exec, execCapDrainFinish, if_pos hdr, hctx, hcsr, dwrite_irqAck_dread]
  split <;> rfl

end Finish

/-- Settles O30: polled context by `exec_capDrainFinish_poll`, interrupt context by `exec_capDrainFinish_irq` and whether
the card FIFO is empty. -/
theorem drainFinishAcknowledges : Obligations.DrainFinishAcknowledges := by
  refine fun s hdr => ⟨fun hctx => ?poll, fun hctx hempty => ?ends, fun hctx hmore => ?resumes⟩
  case poll => rw [exec_capDrainFinish_poll hdr hctx, endDrain_eq]
  case ends =>
    obtain ⟨v, hv, hx⟩ := exec_capDrainFinish_irq hdr hctx
    rw [hempty, List.isEmpty_nil] at hv hx
    exact ⟨v, hv, hx.trans (congrArg _ (endDrain_eq _))⟩
  case resumes =>
    obtain ⟨v, hv, hx⟩ := exec_capDrainFinish_irq hdr hctx
    rw [List.isEmpty_eq_false_iff.mpr hmore] at hv hx
    exact ⟨v, hv, hx⟩

/-! ## No drain starts outside OPEN -/

theorem fatalTeardown_capt (s : State) : s.fatalTeardown.capt = s.capt := by
  rcases fatalTeardown_cases s with ⟨-, h⟩ | ⟨-, h⟩ <;> rw [h]

/-- What an instruction makes of an idle drainer: a drain starts only with the device OPEN, by a tick, by the interrupt,
or as the priming drain of `dev.open` (spec/42_capture.md R149, R150, spec/44_device.md R216). -/
theorem exec_idle_cases {i : Instr} {s t : State} (hidle : s.capt.dr = .idle) (h : exec i s = .next t) :
    t.capt.dr = .idle ∨ (t.life.dev = .opened ∧ t.capt.dr = .active) := by
  cases i with
  | nop | tvP2t => cases h; exact .inl hidle
  | tvNorm | tvAdd | tvSub | tvT2p | rbNew | rbPop | lcStopComp | lcRelease =>
    simp only [exec, execTvNorm, execTvAdd, execTvSub, execTvT2p, execRbNew, execRbPop, execLcStopComp,
      execLcRelease] at h
    split at h <;> cases h <;> exact .inl hidle
  | capTick =>
    by_cases hen : s.life.dev = .opened ∧ s.capt.mode = .poll ∧ s.capt.dr = .idle
    · cases (exec_capTick_enabled hen).symm.trans h
      exact .inr ⟨hen.1, rfl⟩
    · cases (exec_capTick_discarded hen).symm.trans h
      exact .inl hidle
  | capIrq =>
    by_cases hen : s.card.irqPend = true ∧ s.life.dev = .opened ∧ s.capt.mode = .irq ∧ s.capt.dr = .idle
    · obtain ⟨hpend, hdev, hmode, hdr⟩ := hen
      cases (exec_capIrq_enabled hpend hdev hmode hdr).symm.trans h
      exact .inr ⟨hdev, rfl⟩
    · cases (exec_capIrq_held hen).symm.trans h
      exact .inl hidle
  | devOpen =>
    rcases execDevOpen_cases h with ⟨code, rfl⟩ | ⟨-, -, -, ⟨-, rfl⟩ | ⟨-, rfl⟩⟩
    · exact .inl hidle
    · exact .inl rfl
    · exact .inr ⟨rfl, rfl⟩
  | devClose => rcases execDevClose_cases h with ⟨code, rfl⟩ | ⟨-, -, rfl⟩ <;> exact .inl hidle
  | calStart ch =>
    rcases execCalStart_cases h with ⟨code, rfl⟩ | rfl | ⟨-, -, -, -, -, c, -, rfl⟩
    · exact .inl hidle
    · exact .inl (by simpa [fatalTeardown_capt] using hidle)
    · exact .inl hidle
  | rbPush x =>
    simp only [exec, execRbPush] at h
    split at h <;> cases h
    rename_i hpush
    obtain ⟨c, -, -, rfl⟩ := ringPush?_some hpush
    exact .inl (by simpa using hidle)
  | capDrainStep =>
    rcases execCapDrainStep_cases h with rfl | ⟨hdr, -⟩
    · exact .inl hidle
    · simp [hidle] at hdr
  | capDrainFinish =>
    rcases execCapDrainFinish_cases h with rfl | ⟨hdr, -⟩
    · exact .inl hidle
    · simp [hidle] at hdr
  | capDeliver => rcases execCapDeliver_cases h with rfl | ⟨-, -, x, r, -, -, rfl⟩ <;> exact .inl hidle
  | calShot =>
    rcases execCalShot_cases h with rfl | ⟨-, o, u, -, hu, ⟨code, -, rfl⟩ | ⟨raw, v, -, -, -, rfl⟩⟩
    · exact .inl hidle
    · exact .inl (by simpa [hu.capt] using hidle)
    · exact .inl (by simpa [hu.capt] using hidle)
  | calPoint => rcases execCalPoint_cases h with rfl | ⟨-, ⟨-, rfl⟩ | ⟨-, rfl⟩⟩ <;> exact .inl hidle
  | calFit => rcases execCalFit_cases h with rfl | ⟨-, -, off, -, rfl⟩ <;> exact .inl hidle
  | lcStopCapture =>
    rcases execLcStopCapture_cases h with rfl | ⟨-, -, -, u, hu, rfl⟩
    · exact .inl hidle
    · exact .inl (by simpa [hu.capt] using hidle)

/-- No capture register is writable by the host (spec/10_state.md R23, R34). -/
theorem writeCsr_capt (s : State) (w : Word) (r : Csr) : (writeCsr s w r).capt = s.capt := by
  cases r <;> rfl

theorem eventStep_run_capt {e : Event} {i : Instr} {s u : State} (h : eventStep e s = .run i u) :
    u.capt = s.capt := by
  rcases eventStep_run_cases h with ⟨w, -, -, rfl⟩ | ⟨rfl, -⟩ <;> rfl

/-- A step finished at once is reset or leaves the capture state as it is. -/
theorem eventStep_done_capt {e : Event} {s t : State} (h : eventStep e s = .done t) :
    t = s.resetBlock ∨ t.capt = s.capt := by
  cases e with
  | reset => cases h; exact .inl rfl
  | hostRead off =>
    cases h
    unfold State.hostRead
    split <;> exact .inr rfl
  | hostWrite off w =>
    rcases hostWrite_cases off w s with ⟨j, -, -, hw⟩ | hw | ⟨r, -, hw⟩ | hw <;> rw [eventStep, hw] at h <;> cases h
    · exact .inr rfl
    · exact .inr (writeCsr_capt s w r)
    · exact .inr rfl
  | lifecycle =>
    cases hop : lifecycleOp s <;> simp only [eventStep, hop] at h <;> cases h
    exact .inr rfl
  | compAcquire => cases h; rcases compAcquire_cases s with h | ⟨-, -, h⟩ <;> rw [h] <;> exact .inr rfl
  | compRelease => cases h; rcases compRelease_cases s with h | ⟨-, h⟩ <;> rw [h] <;> exact .inr rfl
  | compWrite ch w =>
    cases h
    unfold State.compWrite
    split <;> exact .inr rfl
  | envFifo _ | envInputs _ _ | envTdc _ | envFifoCsr _ => cases h; exact .inr rfl
  | drainer | deliverer | calibrator | envTick => cases h

/-- Settles O31: a step finished at once leaves an idle drainer idle, and an instruction does what `exec_idle_cases`
says. -/
theorem noDrainStartsOutsideOpen : Obligations.NoDrainStartsOutsideOpen := by
  intro s t h hidle hbusy
  rcases step_inversion h with rfl | ⟨e, rest, -, ⟨i, u, he, hx⟩ | he⟩
  · exact absurd hidle hbusy
  · have hu : u.capt.dr = .idle := (congrArg Capture.dr (eventStep_run_capt he)).trans hidle
    exact (exec_idle_cases hu hx).resolve_left hbusy
  · rcases eventStep_done_capt he with rfl | hcapt
    · exact absurd rfl hbusy
    · exact absurd ((congrArg Capture.dr hcapt).trans hidle) hbusy

end Sys2Proof.Machine
end

section
/-! PROOFS. The deliverer (spec/42_capture.md R153 to R157): the record of one delivery, its gap, and the output stream. -/

namespace Sys2Proof.Machine

/-! ## One delivery -/

section TimeCases

variable {x : RawSample} (cfg : HostCfg)

/-- A time out of range takes no offset (spec/42_capture.md R155). -/
theorem deliverTime_outOfRange (h : (timeNormalize x).nr = true) :
    deliverTime cfg x = ⟨(timeNormalize x).val, true, false, (timeNormalize x).ov⟩ := by
  simp only [deliverTime, if_pos h]

/-- A channel of 4 or more has no offsets (spec/42_capture.md R155). -/
theorem deliverTime_noChannel (h : (timeNormalize x).nr = false) (hch : 4 ≤ x.channel.toNat) :
    deliverTime cfg x = ⟨(timeNormalize x).val, false, true, (timeNormalize x).ov⟩ := by
  simp only [deliverTime, h, Bool.false_eq_true, if_false, Chan.ofNat?_eq_none.mpr hch]

/-- Both offsets of the channel are added, `ZERO_OFF` first (spec/42_capture.md R155). -/
theorem deliverTime_channel (h : (timeNormalize x).nr = false) {ch : Chan} (hch : x.channel.toNat = ch.toNat) :
    let z := timeAdd (timeNormalize x).val (picoToTime (cfg.zeroOff.get ch))
    let v := timeAdd z.val (picoToTime (cfg.userOff.get ch))
    deliverTime cfg x = ⟨v.val, false, false, (timeNormalize x).ov || z.ov || v.ov⟩ := by
  simp only [deliverTime, h, Bool.false_eq_true, if_false, Chan.ofNat?_eq_some.mpr hch]

end TimeCases

/-- The flags of a record, each at its bit (spec/30_encoding.md R94). -/
theorem recordFlags_eq_or (nr cr ov : Bool) :
    recordFlags nr cr ov = (if nr then 1#8 else 0#8) ||| (if cr then 2#8 else 0#8) ||| (if ov then 4#8 else 0#8) := by
  revert nr cr ov
  decide

/-- The state with the sample x popped off the ring (spec/41_ringbuffer.md R136). -/
def State.popped (x : RawSample) (s : State) : State :=
  { s with ring := { s.ring with tail := s.ring.tail + 1#64, ret := .sample x } }

/-- What a delivery leaves, by the time and the flags of its record. -/
theorem popped_deliver {s : State} {x : RawSample} {d : Delivered} (h : deliverTime s.cfg x = d) :
    (s.popped x).deliver x = s.delivered x d.time d.nr d.cr d.ov := by
  subst h
  simp only [State.delivered, ← recordFlags_eq_or]
  rfl

/-- `cap.deliver` delivers the sample in the tail slot (spec/42_capture.md R153, R155). -/
theorem exec_capDeliver_sample {s : State} {c : BitVec 64} {x : RawSample} (hdev : s.life.dev = .opened)
    (hne : s.ring.head ≠ s.ring.tail) (hcap : s.ring.cap = some c) (hc : c ≠ 0#64)
    (hread : Memory.read s.ring.slots (slotIndex s.ring.tail c) = some x) (hraw : x.isRaw = true) :
    exec .capDeliver s = .next ((s.popped x).deliver x) := by
  simp only [exec, execCapDeliver, hdev, hne, ne_eq, not_false_eq_true, and_self, if_true,
    Ring.pop_of_read hcap hc hne.symm hread, hraw]
  rfl

/-- Settles O32: `cap.deliver` delivers the sample (`exec_capDeliver_sample`), with the time and the flags of
`deliverTime`'s three cases. -/
theorem capDeliverEmitsRecord : Obligations.CapDeliverEmitsRecord := by
  intro s c x hdev hne hcap hc hread hcoarse hfrac
  have hx := exec_capDeliver_sample hdev hne hcap hc hread (isRaw_iff.mpr ⟨hcoarse, hfrac⟩)
  refine ⟨fun hnr => ?_, fun hnr hch => ?_, fun hnr ch hch => ?_⟩
  · rw [hx, popped_deliver (deliverTime_outOfRange s.cfg hnr)]
  · rw [hx, popped_deliver (deliverTime_noChannel s.cfg hnr hch)]
  · rw [hx, popped_deliver (deliverTime_channel s.cfg hnr hch)]

/-! ## The sequence gap -/

/-- The gap as the number of sequence numbers missing (spec/42_capture.md R154). -/
theorem seqGap_toNat (valid : Bool) (last seq : BitVec 16) :
    ((seqGap valid last seq).toNat : Int) =
      if valid = true then ((seq.toNat : Int) - last.toNat - 1) % 65536 else 0 := by
  cases valid with
  | false => rfl
  | true =>
    have hseq := seq.isLt
    have hlast := last.isLt
    simp only [seqGap, if_true, BitVec.toNat_sub, BitVec.toNat_ofNat]
    omega

/-- `LOST` grows by the gap modulo 2^64 (spec/42_capture.md R155). -/
theorem lost_add_gap_toNat (lost : BitVec 64) (gap : BitVec 16) :
    (lost + gap.setWidth 64).toNat = (lost.toNat + gap.toNat) % 2 ^ 64 := by
  rw [BitVec.toNat_add, BitVec.toNat_setWidth_of_le (by omega)]

/-- Settles O33: the record of `exec_capDeliver_sample` carries `seqGap`, which is `seqGap_toNat`. -/
theorem sequenceGap : Obligations.SequenceGap := by
  intro s c x hdev hne hcap hc hread hcoarse hfrac
  exact ⟨_, _, exec_capDeliver_sample hdev hne hcap hc hread (isRaw_iff.mpr ⟨hcoarse, hfrac⟩), deliver_out _ _,
    seqGap_toNat _ _ _, lost_add_gap_toNat _ _, rfl, rfl⟩

/-! ## The output stream -/

/-- Only `cap.deliver` appends to the output stream, one record, while OPEN with a sample in the ring
(spec/42_capture.md R153, R157). -/
theorem exec_out_cases {i : Instr} {s t : State} (h : exec i s = .next t) :
    t.capt.out = s.capt.out ∨
      (i = .capDeliver ∧ s.life.dev = .opened ∧ s.ring.head ≠ s.ring.tail ∧ ∃ r, t.capt.out = s.capt.out ++ [r]) := by
  by_cases hi : producesTime i = false
  · exact .inl (exec_sameTimes hi h).out
  cases i with
  | tvNorm | tvAdd | tvSub =>
    simp only [exec, execTvNorm, execTvAdd, execTvSub] at h
    split at h <;> cases h <;> exact .inl rfl
  | tvP2t => cases h; exact .inl rfl
  | capDeliver =>
    rcases execCapDeliver_cases h with rfl | ⟨hdev, hne, x, r, -, -, rfl⟩
    · exact .inl rfl
    · exact .inr ⟨rfl, hdev, hne, _, deliver_out _ _⟩
  | _ => exact absurd rfl hi

theorem drainerOp_ne_capDeliver (s : State) : drainerOp s ≠ .capDeliver := by
  unfold drainerOp
  cases s.capt.dr <;> simp

theorem lifecycleOp_ne_capDeliver (s : State) : lifecycleOp s ≠ some .capDeliver := by
  unfold lifecycleOp
  cases s.life.phase <;> simp

/-- Deliveries are the deliverer's: no command word and no other agent runs `cap.deliver` (spec/30_encoding.md R95). -/
theorem eventStep_run_capDeliver {e : Event} {s u : State} (h : eventStep e s = .run .capDeliver u) :
    e = .deliverer ∧ u = s := by
  rcases eventStep_run_cases h with ⟨w, -, hd, -⟩ | ⟨hu, ⟨-, hi⟩ | ⟨he, -⟩ | ⟨-, hi⟩ | ⟨-, hi⟩ | ⟨-, hi⟩⟩
  · obtain ⟨v, hv⟩ := decode_encodes hd
    cases hv
  · exact absurd hi.symm (drainerOp_ne_capDeliver s)
  · exact ⟨he, hu⟩
  · rcases calibratorOp_cases s with hc | hc | hc <;> rw [hc] at hi <;> cases hi
  · exact absurd hi (lifecycleOp_ne_capDeliver s)
  · cases hi

/-- Settles O34: an instruction appends as `exec_out_cases` says, the deliverer alone runs `cap.deliver`
(`eventStep_run_capDeliver`), and what is finished at once leaves the stream (`eventStep_done_sameTimes`). -/
theorem streamAppendOnly : Obligations.StreamAppendOnly := by
  intro s t h hreset
  rcases step_inversion h with rfl | ⟨e, rest, hs, ⟨i, u, he, hx⟩ | he⟩
  · exact .inl rfl
  · rcases exec_out_cases hx with hsame | ⟨rfl, hdev, hne, r, hr⟩
    · exact .inl (hsame.trans (eventStep_run_sameTimes he).out)
    · obtain ⟨rfl, rfl⟩ := eventStep_run_capDeliver he
      exact .inr ⟨by rw [hs]; rfl, hdev, hne, r, hr⟩
  · rcases eventStep_done_sameTimes he with ⟨rfl, -⟩ | hsame
    · exact absurd (by rw [hs]; rfl) hreset
    · exact .inl hsame.out

end Sys2Proof.Machine
end

section
/-! PROOFS. The calibrator (spec/43_calibrator.md R177 to R197): the start of a run, its shots, its points, the end of the
search, and the fit. -/

namespace Sys2Proof.Machine

/-! ## The start of a run -/

/-- What `cal.start` asks of the configuration (spec/43_calibrator.md R180). -/
theorem calOk_iff {c : HostCfg} :
    c.calOk = true ↔ (∃ n, n ≤ Config.calNMaxLog2 ∧ c.calN.toNat = 2 ^ n) ∧
      c.scaleDen ≠ 0#32 ∧ c.binFp ≠ 0#32 ∧ c.waitMax ≠ 0#32 := by
  simp only [HostCfg.calOk, Bool.and_eq_true, decide_eq_true_eq, bne_iff_ne, ne_eq, and_assoc, ← calN_iff]

/-- `cal.start` passes every check (spec/43_calibrator.md R180, spec/60_exceptions.md R238). -/
theorem exec_calStart_accepted {s : State} {ch : BitVec 4} {k : Chan} (hfatal : s.life.fatal = false)
    (hdev : s.life.dev = .opened) (hrun : s.cal.running = false) (hch : ch.toNat = k.toNat) (hcfg : s.cfg.calOk = true)
    (hself : s.card.selftestOk = true) (hlock : s.life.lock = .free) :
    exec (.calStart ch) s = .next
      (({ s with cal := s.cal.started s.cfg k, life := { s.life with lock := .cal } } : State).setErr .ok opcCalStart) := by
  simp only [exec, execCalStart, hfatal, hdev, hrun, Chan.ofNat?_eq_some.mpr hch, hcfg, hself, hlock, ne_eq,
    not_true_eq_false, Bool.false_eq_true, Bool.true_eq_false, or_self, if_false]
  rfl

/-- Settles O37: the checks pass (`exec_calStart_accepted`), and a started run is what R177, R180 and R181 assign. -/
theorem calStartBeginsRun : Obligations.CalStartBeginsRun := by
  intro s ch k hfatal hdev hfsm hch hcount hden hbin hwait hself hlock
  have hcfg : s.cfg.calOk = true := calOk_iff.mpr ⟨hcount, hden, hbin, hwait⟩
  exact exec_calStart_accepted hfatal hdev (not_running_iff.mpr hfsm) hch hcfg hself hlock

/-! ## The transactions of a shot -/

/-- A delay register keeps the low 10 bits of what is written to it (spec/20_memory.md R66). -/
theorem dwrite_dlyTap (ch : Chan) (tap : BitVec 16) (s : State) :
    s.dwrite (.dlyTap ch) (tap.setWidth 32) =
      { s with
        card := { s.card with dlyTap := s.card.dlyTap.set ch (tap.setWidth 10) }
        port := s.port ++ [.write (.dlyTap ch) (tap.setWidth 32)] } := by
  have hbits : (tap.setWidth 32).extractLsb' 0 10 = tap.setWidth 10 := by
    rw [← BitVec.setWidth_eq_extractLsb' (by omega), BitVec.setWidth_setWidth_of_le _ (by omega)]
  simp only [State.dwrite, State.logTxn, Card.written, hbits]

/-- The state after the five writes of a shot (spec/43_calibrator.md R184). -/
def State.armed (s : State) : State :=
  { s with
    card := s.card.afterShot s.cal.calCh s.cal.curTap s.card.tdcDraws
    port := s.port ++ shotWrites s.cal.calCh s.cal.curTap }

theorem armShot_eq (s : State) : s.armShot = s.armed := by
  have harm : 1#32 <<< s.cal.calCh.toNat = BitVec.ofNat 32 (2 ^ s.cal.calCh.toNat) := by
    cases s.cal.calCh <;> rfl
  rw [State.armShot, dwrite_dlyTap, harm]
  simp only [State.dwrite, State.logTxn, Card.written, List.append_assoc]
  rfl

/-- The state after a TDC read that answers w and leaves `rest` of the answers (spec/20_memory.md R66). -/
def State.tdcRead (r : ReadReg) (w : Word) (rest : List Word) (s : State) : State :=
  { s with card := { s.card with tdcDraws := rest }, port := s.port ++ [.read r w] }

/-- The state after the polls answered `ws`, with `rest` of the answers left (spec/43_calibrator.md R185). -/
def State.polled (ws rest : List Word) (s : State) : State :=
  { s with card := { s.card with tdcDraws := rest }, port := s.port ++ ws.map (.read .tdcStatus) }

section Answers

variable {s : State} {ws rest : List Word}

/-- A TDC read answers the next of the listed answers (spec/10_state.md R47). -/
theorem tdcDraw_cons {w : Word} (h : s.card.tdcDraws = w :: rest) :
    s.tdcDraw = (w, { s with card := { s.card with tdcDraws := rest } }) := by
  simp only [State.tdcDraw, h]

theorem dread_tdcStatus {w : Word} (h : s.card.tdcDraws = w :: rest) :
    s.dread .tdcStatus = (w, s.tdcRead .tdcStatus w rest) := by
  simp only [State.dread, State.cardAnswer, tdcDraw_cons h]
  rfl

theorem dread_tdcResult {w : Word} (h : s.card.tdcDraws = w :: rest) :
    s.dread .tdcResult = (w, s.tdcRead .tdcResult w rest) := by
  simp only [State.dread, State.cardAnswer, tdcDraw_cons h]
  rfl

/-- Without a poll the state is as it was. -/
theorem polled_nil (h : s.card.tdcDraws = rest) : s.polled [] rest = s := by
  subst h
  simp only [State.polled, List.map_nil, List.append_nil]

theorem tdcRead_polled (w : Word) (mid : List Word) :
    (s.tdcRead .tdcStatus w mid).polled ws rest = s.polled (w :: ws) rest := by
  simp only [State.polled, State.tdcRead, List.map_cons, List.append_assoc, List.singleton_append]

/-- Polls that report neither RDY nor ERR are used up one by one (spec/43_calibrator.md R185). -/
theorem tdcWait_notReady (hws : ∀ w ∈ ws, notReady w) (h : s.card.tdcDraws = ws ++ rest) (n : Nat) :
    s.tdcWait (ws.length + n) = (s.polled ws rest).tdcWait n := by
  induction ws generalizing s with
  | nil => rw [List.length_nil, Nat.zero_add, polled_nil (rest := rest) h]
  | cons w ws ih =>
    obtain ⟨hrdy, herr⟩ := hws w List.mem_cons_self
    rw [List.length_cons, Nat.add_right_comm, State.tdcWait, dread_tdcStatus h]
    simp only [herr, hrdy, Bool.false_eq_true, if_false]
    rw [ih (fun v hv => hws v (List.mem_cons_of_mem w hv)) rfl, tdcRead_polled]

/-- A poll that reports ERR fails the measurement (spec/43_calibrator.md R185). -/
theorem tdcWait_err {w : Word} (h : s.card.tdcDraws = w :: rest) (herr : w.getLsbD 1 = true) (n : Nat) :
    s.tdcWait (n + 1) = (.failed .measFail, s.tdcRead .tdcStatus w rest) := by
  rw [State.tdcWait, dread_tdcStatus h]
  simp only [herr, if_true]

/-- A poll that reports RDY is followed by the read of the result (spec/43_calibrator.md R185). -/
theorem tdcWait_ready {w1 w2 : Word} (h : s.card.tdcDraws = w1 :: w2 :: rest) (herr : w1.getLsbD 1 = false)
    (hrdy : w1.getLsbD 0 = true) (n : Nat) :
    s.tdcWait (n + 1) =
      (.raw (tdcRaw w2), (s.tdcRead .tdcStatus w1 (w2 :: rest)).tdcRead .tdcResult w2 rest) := by
  rw [State.tdcWait, dread_tdcStatus h]
  simp only [herr, hrdy, Bool.false_eq_true, if_true, if_false]
  rw [dread_tdcResult rfl]

/-- The wait of a shot after polls answered `ws`, n of the k polls it may make being left (spec/43_calibrator.md R185). -/
theorem armShot_tdcWait {draws : List Word} (hws : ∀ w ∈ ws, notReady w) (h : s.card.tdcDraws = ws ++ draws) {n k : Nat}
    (hk : k = ws.length + n) : s.armShot.tdcWait k = (s.armed.polled ws draws).tdcWait n := by
  rw [hk, armShot_eq, tdcWait_notReady (s := s.armed) hws h]

end Answers

/-! ## A shot -/

section Shot

variable {s t : State}

theorem shotEnabled_of (hfsm : s.cal.fsm = .measuringBias ∨ s.cal.fsm = .binarySearching)
    (hphase : s.cal.phase = .bias ∨ s.cal.phase = .search) (hshots : s.cal.shotCount.toNat < s.cal.nL.toNat) :
    s.cal.shotEnabled = true := by
  simp only [Calibrator.shotEnabled, running_iff.mpr hfsm, Bool.true_and, Bool.and_eq_true, Bool.or_eq_true, beq_iff_eq,
    decide_eq_true_eq]
  exact ⟨hphase, hshots⟩

/-- A shot with a raw result accumulates its value (spec/43_calibrator.md R184, R186). -/
theorem exec_calShot_raw (hen : s.cal.shotEnabled = true) {raw : BitVec 17}
    (hwait : s.armShot.tdcWait s.cal.waitL.toNat = (.raw raw, t)) (hden : t.cal.denL ≠ 0#32) :
    exec .calShot s = .next
      ((t.noteOvf (outsideS64 (toPsExact t.cal.numL t.cal.denL t.cal.binL raw))).accumulate
        (wrapS64 (toPsExact t.cal.numL t.cal.denL t.cal.binL raw))) := by
  simp only [exec, execCalShot, hen, if_true, hwait, if_neg hden]

/-- A shot whose wait fails aborts the run (spec/43_calibrator.md R197). -/
theorem exec_calShot_failed (hen : s.cal.shotEnabled = true) {code : ErrCode}
    (hwait : s.armShot.tdcWait s.cal.waitL.toNat = (.failed code, t)) :
    exec .calShot s = .next (t.abortRun code) := by
  simp only [exec, execCalShot, hen, if_true, hwait]

end Shot

/-- `ToPs` is the floor of the scaled raw result (spec/43_calibrator.md R178). -/
theorem toPsExact_floor {num den bin : Word} (hden : den ≠ 0#32) (raw : BitVec 17) :
    ∃ v : Nat, toPsExact num den bin raw = v ∧ v * (den.toNat * 65536) ≤ raw.toNat * num.toNat * bin.toNat ∧
      raw.toNat * num.toNat * bin.toNat < (v + 1) * (den.toNat * 65536) := by
  have hpos : 0 < den.toNat * 65536 := by bv_omega
  exact ⟨_, rfl, Nat.div_mul_le_self _ _, Nat.lt_mul_of_div_lt (Nat.lt_succ_self _) hpos⟩

theorem minS64_toInt (a b : BitVec 64) : (minS64 a b).toInt = min a.toInt b.toInt := by
  unfold minS64
  split <;> omega

theorem maxS64_toInt (a b : BitVec 64) : (maxS64 a b).toInt = max a.toInt b.toInt := by
  unfold maxS64
  split <;> omega

/-- The state after the writes, the polls and the result read of a shot (spec/43_calibrator.md R184, R185). -/
theorem shotReads_eq (s : State) (ws rest : List Word) (w1 w2 : Word) :
    ((s.armed.polled ws (w1 :: w2 :: rest)).tdcRead .tdcStatus w1 (w2 :: rest)).tdcRead .tdcResult w2 rest =
      { s with
        card := s.card.afterShot s.cal.calCh s.cal.curTap rest
        port := s.port ++ shotWrites s.cal.calCh s.cal.curTap ++ ws.map (.read .tdcStatus) ++
          [.read .tdcStatus w1, .read .tdcResult w2] } := by
  simp only [State.tdcRead, State.polled, State.armed, Card.afterShot, List.append_assoc, List.singleton_append]

/-- Settles O39: the wait ends with the raw result (`armShot_tdcWait`, `tdcWait_ready`), whose value `toPsExact_floor`
pins, and `exec_calShot_raw` accumulates it. -/
theorem calShotAccumulates : Obligations.CalShotAccumulates := by
  intro s ws rest w1 w2 hfsm hphase hshots hden hdraws hws herr hrdy hlen
  obtain ⟨v, hv, hlo, hhi⟩ := toPsExact_floor (num := s.cal.numL) (bin := s.cal.binL) hden (tdcRaw w2)
  have hraw : (tdcRaw w2).toNat = w2.toNat % 2 ^ 17 := by simp [tdcRaw]
  obtain ⟨n, hn⟩ := Nat.exists_eq_add_of_lt hlen
  have hwait := (armShot_tdcWait (n := n + 1) hws hdraws hn).trans (tdcWait_ready rfl herr hrdy n)
  rw [shotReads_eq] at hwait
  have hx := exec_calShot_raw (shotEnabled_of hfsm hphase hshots) hwait hden
  dsimp only at hx
  rw [hv] at hx
  rw [hraw] at hlo hhi
  refine ⟨v, _, hlo, hhi, hx, ?_, minS64_toInt _ _, maxS64_toInt _ _⟩
  have hovf : outsideS64 (v : Int) = decide (2 ^ 63 ≤ (v : Int)) := by
    rw [outsideS64_eq, decide_eq_decide]
    omega
  simp only [State.accumulate, State.noteOvf, outsideS64_eq (_ + _), hovf]
  rfl

/-! ## An abort -/

/-- The last write of a channel's register stays. -/
theorem Quad.set_set {α : Type} (q : Quad α) (ch : Chan) (x y : α) : (q.set ch x).set ch y = q.set ch y := by
  cases ch <;> rfl

/-- `abort_run` (spec/43_calibrator.md R197), with the tap it puts back. -/
theorem abortRun_eq (code : ErrCode) (s : State) :
    s.abortRun code =
      { s with
        card := { s.card with dlyTap := s.card.dlyTap.set s.cal.calCh (s.cal.restoredTap.setWidth 10) }
        port := s.port ++ [.write (.dlyTap s.cal.calCh) (s.cal.restoredTap.setWidth 32)]
        cal := { s.cal with err := code, fsm := .idle, phase := .none }
        life := { s.life with lock := .free } } := by
  have htap : (if (s.cal.res.get s.cal.calCh).valid then (s.cal.res.get s.cal.calCh).tap.setWidth 32 else 0#32) =
      s.cal.restoredTap.setWidth 32 := by
    unfold Calibrator.restoredTap
    split <;> rfl
  simp only [State.abortRun, htap, dwrite_dlyTap]

/-- The state an abort leaves after the writes of a shot and the polls `reads` (spec/43_calibrator.md R197). -/
theorem abortRun_polled (code : ErrCode) (s : State) (reads rest : List Word) :
    (s.armed.polled reads rest).abortRun code =
      { s with
        card :=
          { s.card.afterShot s.cal.calCh s.cal.curTap rest with
            dlyTap := s.card.dlyTap.set s.cal.calCh (s.cal.restoredTap.setWidth 10) }
        port := s.port ++ shotWrites s.cal.calCh s.cal.curTap ++ reads.map (.read .tdcStatus) ++
          [.write (.dlyTap s.cal.calCh) (s.cal.restoredTap.setWidth 32)]
        cal := { s.cal with err := code, fsm := .idle, phase := .none }
        life := { s.life with lock := .free } } := by
  rw [abortRun_eq]
  simp only [State.polled, State.armed, Card.afterShot, Quad.set_set]

/-- The poll that ends a wait is one of the polls of the shot. -/
theorem polled_tdcRead (s : State) (ws rest : List Word) (w : Word) :
    (s.polled ws (w :: rest)).tdcRead .tdcStatus w rest = s.polled (ws ++ [w]) rest := by
  simp only [State.polled, State.tdcRead, List.map_append, List.append_assoc, List.map_cons, List.map_nil]

/-- Settles O40: the wait ends with MEAS_FAIL (`tdcWait_err`) or runs out of polls, and the run is aborted
(`exec_calShot_failed`, `abortRun_polled`). -/
theorem calShotAborts : Obligations.CalShotAborts := by
  intro s ws rest hfsm hphase hshots hws
  have hen := shotEnabled_of hfsm hphase hshots
  refine ⟨fun w hdraws herr hlen => ?measFail, fun hdraws hlen => ?timeout⟩
  case measFail =>
    obtain ⟨n, hn⟩ := Nat.exists_eq_add_of_lt hlen
    have hwait := (armShot_tdcWait (n := n + 1) hws hdraws hn).trans (tdcWait_err rfl herr n)
    rw [polled_tdcRead] at hwait
    rw [exec_calShot_failed hen hwait, abortRun_polled]
  case timeout =>
    have hwait : s.armShot.tdcWait s.cal.waitL.toNat = (.failed .timeout, s.armed.polled ws rest) :=
      armShot_tdcWait (n := 0) hws hdraws hlen.symm
    rw [exec_calShot_failed hen hwait, abortRun_polled]

/-! ## A point -/

/-- The average is the floor of `acc / n_l` and never wraps (spec/43_calibrator.md R187). -/
theorem average_floor {c : Calibrator} (hn : c.nL ≠ 0#32) :
    c.average.toInt * c.nL.toNat ≤ c.acc.toInt ∧ c.acc.toInt < (c.average.toInt + 1) * c.nL.toNat := by
  have hpos : (0 : Int) < c.nL.toNat := by bv_omega
  obtain ⟨hmin, hmax⟩ := toInt_bounds c.acc
  have hexact : c.average.toInt = c.acc.toInt / c.nL.toNat := by
    refine toInt_ofInt_eq_iff.mpr ⟨(Int.le_ediv_iff_mul_le hpos).mpr ?_, (Int.ediv_lt_iff_lt_mul hpos).mpr ?_⟩
    · nlinarith
    · nlinarith
  rw [hexact]
  exact ⟨Int.ediv_mul_le _ hpos.ne', Int.lt_ediv_add_one_mul_self _ hpos⟩

section Point

variable {s : State} (hfsm : s.cal.fsm = .measuringBias ∨ s.cal.fsm = .binarySearching)
  (hshots : s.cal.shotCount.toNat = s.cal.nL.toNat)
include hfsm hshots

theorem pointEnabled_of (hphase : s.cal.phase = .bias ∨ s.cal.phase = .search) : s.cal.pointEnabled = true := by
  simp only [Calibrator.pointEnabled, running_iff.mpr hfsm, hshots, decide_true, Bool.true_and, Bool.and_true,
    Bool.or_eq_true, beq_iff_eq]
  exact hphase

/-- The last shot of the bias point is in (spec/43_calibrator.md R187, R188). -/
theorem exec_calPoint_bias (hn : s.cal.nL ≠ 0#32) (hphase : s.cal.phase = .bias) :
    exec .calPoint s = .next { s with cal := s.cal.biasDone s.cal.average } := by
  simp only [exec, execCalPoint, pointEnabled_of hfsm hshots (.inl hphase), if_true, if_neg hn, hphase]

/-- The last shot of a search point is in (spec/43_calibrator.md R187, R189). -/
theorem exec_calPoint_search (hn : s.cal.nL ≠ 0#32) (hphase : s.cal.phase = .search) :
    exec .calPoint s = .next { s with cal := s.cal.searchDone s.cal.average } := by
  simp only [exec, execCalPoint, pointEnabled_of hfsm hshots (.inr hphase), if_true, if_neg hn, hphase]

end Point

/-- Settles O41: `exec_calPoint_bias` with the average of `average_floor`. -/
theorem calPointCompletesBias : Obligations.CalPointCompletesBias := by
  intro s hfsm hphase hshots hn
  obtain ⟨hlo, hhi⟩ := average_floor hn
  exact ⟨s.cal.average, hlo, hhi, exec_calPoint_bias hfsm hshots hn hphase⟩

/-- An average below the target moves the lower bound to the tap, any other the upper one (spec/43_calibrator.md R189). -/
theorem moveBound_spec (avg : BitVec 64) (c : Calibrator) :
    ∃ low high delay, c.moveBound avg = { c with low := low, high := high, lowDelay := delay, iter := c.iter + 1#32 } ∧
      (avg.toInt - c.bias.toInt < 8000 → low = c.curTap ∧ delay = avg ∧ high = c.high) ∧
      (8000 ≤ avg.toInt - c.bias.toInt → low = c.low ∧ delay = c.lowDelay ∧ high = c.curTap) := by
  rcases lt_or_ge (avg.toInt - c.bias.toInt) 8000 with hlt | hge
  · exact ⟨_, _, _, if_pos hlt, fun _ => ⟨rfl, rfl, rfl⟩, fun hge => absurd hlt (not_lt.mpr hge)⟩
  · exact ⟨_, _, _, if_neg (not_lt.mpr hge), fun hlt => absurd hlt (not_lt.mpr hge), fun _ => ⟨rfl, rfl, rfl⟩⟩

section SearchUpdate

variable {avg : BitVec 64} {c m : Calibrator}

/-- The search ends on bounds at most 1 apart (spec/43_calibrator.md R189). -/
theorem searchDone_ends (hm : c.moveBound avg = m) (h : m.high.toNat ≤ m.low.toNat + 1) :
    c.searchDone avg = { m with phase := .fit } := by
  subst hm
  exact if_pos (by omega)

/-- The search goes on to the midpoint of bounds further apart (spec/43_calibrator.md R182, R189). -/
theorem searchDone_continues (hm : c.moveBound avg = m) (h : m.low.toNat + 1 < m.high.toNat) :
    c.searchDone avg = m.beginPoint (midTap m.low m.high) := by
  subst hm
  exact if_neg (by omega)

end SearchUpdate

/-- Settles O42: the average moves one bound (`moveBound_spec`), and the distance of the bounds decides between
`searchDone_ends` and `searchDone_continues`. -/
theorem calPointMovesBound : Obligations.CalPointMovesBound := by
  intro s hfsm hphase hshots hn
  obtain ⟨hlo, hhi⟩ := average_floor hn
  have hx := exec_calPoint_search hfsm hshots hn hphase
  obtain ⟨low, high, delay, hm, hbelow, habove⟩ := moveBound_spec s.cal.average s.cal
  refine ⟨s.cal.average, low, high, delay, hlo, hhi, hbelow, habove, fun hends => ?_, fun hmore => ?_⟩
  · rw [hx, searchDone_ends hm hends]
  · rw [hx, searchDone_continues hm hmore]
    rfl

/-! ## The end of the search -/

/-- A moved bound keeps the bounds within the old ones and strictly closer (spec/43_calibrator.md R190). -/
theorem moveBound_shrinks {c : Calibrator} (avg : BitVec 64) (h : c.SearchBounds) :
    c.low.toNat ≤ (c.moveBound avg).low.toNat ∧ (c.moveBound avg).high.toNat ≤ c.high.toNat ∧
      (c.moveBound avg).high.toNat - (c.moveBound avg).low.toNat < c.high.toNat - c.low.toNat := by
  obtain ⟨hhigh, hgap, htap, -, -⟩ := h
  obtain ⟨hlo, hhi, -⟩ := midTap_between hhigh hgap
  rw [← htap] at hlo hhi
  obtain ⟨low, high, delay, hm, hbelow, habove⟩ := moveBound_spec avg c
  rw [hm]
  rcases lt_or_ge (avg.toInt - c.bias.toInt) 8000 with hlt | hge
  · obtain ⟨rfl, -, rfl⟩ := hbelow hlt
    dsimp only
    omega
  · obtain ⟨rfl, -, rfl⟩ := habove hge
    dsimp only
    omega

/-- A search update leaves the bounds and the count that the moved bound gives (spec/43_calibrator.md R189). -/
theorem searchDone_fields (avg : BitVec 64) (c : Calibrator) :
    (c.searchDone avg).low = (c.moveBound avg).low ∧ (c.searchDone avg).high = (c.moveBound avg).high ∧
      (c.searchDone avg).iter = c.iter + 1#32 := by
  have hiter := (moveBound_frame avg c).1
  rcases le_or_gt (c.moveBound avg).high.toNat ((c.moveBound avg).low.toNat + 1) with hends | hmore
  · rw [searchDone_ends rfl hends]
    exact ⟨rfl, rfl, hiter⟩
  · rw [searchDone_continues rfl hmore]
    exact ⟨rfl, rfl, hiter⟩

/-- A search update brings the bounds strictly closer, in order, and counts at most to 10; the search ends exactly when
they are 1 apart (spec/43_calibrator.md R190, R191). -/
theorem searchDone_shrinks {c d : Calibrator} {avg : BitVec 64} (hd : c.searchDone avg = d) (hphase : c.phase = .search)
    (h : c.SearchBounds) :
    c.low.toNat ≤ d.low.toNat ∧ d.high.toNat ≤ c.high.toNat ∧ d.low.toNat < d.high.toNat ∧
      d.high.toNat - d.low.toNat < c.high.toNat - c.low.toNat ∧ d.iter.toNat = c.iter.toNat + 1 ∧ d.iter.toNat ≤ 10 ∧
      (d.phase = .fit ↔ d.high.toNat = d.low.toNat + 1) := by
  obtain ⟨hlow, hhigh, hgap⟩ := moveBound_shrinks avg h
  obtain ⟨hlow', hhigh', hiter⟩ := searchDone_fields avg c
  have hnext := searchDone_bounds hphase h avg
  rw [← hlow'] at hlow hgap
  rw [← hhigh'] at hhigh hgap
  rw [hd] at hlow hhigh hgap hiter hnext
  have hcount : d.iter.toNat = c.iter.toNat + 1 := by
    obtain ⟨-, -, -, hten, -⟩ := h
    rw [hiter]
    bv_omega
  rcases hnext with ⟨hfit, -, hone, hten⟩ | ⟨hsearch, -, hapart, -, hten, -⟩
  · exact ⟨hlow, hhigh, by omega, hgap, hcount, hten, iff_of_true hfit hone⟩
  · exact ⟨hlow, hhigh, by omega, hgap, hcount, hten.le, iff_of_false (by simp [hsearch]) (by omega)⟩

/-- A midpoint is never an end of the range of taps (spec/43_calibrator.md R190). -/
theorem Calibrator.SearchBounds.curTap_range {c : Calibrator} (h : c.SearchBounds) :
    1 ≤ c.curTap.toNat ∧ c.curTap.toNat ≤ 1022 := by
  obtain ⟨htop, hapart, htap, -, -⟩ := h
  obtain ⟨habove, hbelow, -⟩ := midTap_between htop hapart
  rw [htap]
  simp only [Config.tapMax] at htop
  omega

/-- Settles O44: the invariant gives the bounds of a search in progress, whose point is in range (`curTap_range`) and whose
update shrinks them (`searchDone_shrinks`). -/
theorem searchShrinks : Obligations.SearchShrinks := by
  intro s hinv hphase hshots
  have hbounds : s.cal.SearchBounds := hinv.cal.search hphase
  have hrun := hinv.cal.running_of_phase (by simp [hphase])
  have hx := exec_calPoint_search (running_iff.mp hrun) hshots (hinv.cal.nL_ne_zero hrun) hphase
  obtain ⟨hmin, hmax⟩ := hbounds.curTap_range
  exact ⟨hmin, hmax, _, hx, searchDone_shrinks rfl hphase hbounds⟩

/-! ## The fit -/

theorem outsideS32_eq (z : Int) : outsideS32 z = decide (z < -2 ^ 31 ∨ 2 ^ 31 ≤ z) := by
  simp [outsideS32]

/-- `Poly` is the floor of the polynomial over 2^32 (spec/43_calibrator.md R179). -/
theorem polyTap_floor (c0 c1 c2 : BitVec 64) (t : BitVec 16) :
    polyTap c0 c1 c2 t * 2 ^ 32 ≤ c0.toInt * t.toInt * t.toInt + c1.toInt * t.toInt + c2.toInt ∧
      c0.toInt * t.toInt * t.toInt + c1.toInt * t.toInt + c2.toInt < (polyTap c0 c1 c2 t + 1) * 2 ^ 32 := by
  unfold polyTap
  omega

/-- `cal.fit` when it is enabled (spec/43_calibrator.md R192). -/
theorem exec_calFit_enabled {s : State} (hfsm : s.cal.fsm = .binarySearching) (hphase : s.cal.phase = .fit) {off : Int}
    (hoff : fitOffsetExact s.cal.low (polyTap s.cal.c0L s.cal.c1L s.cal.c2L s.card.temp) = off) :
    exec .calFit s = .next
      (((s.noteOvf (outsideS32 off)).dwrite (.dlyTap s.cal.calCh) (s.cal.low.setWidth 32)).commit (wrapS32 off)) := by
  subst hoff
  exact if_pos ⟨hfsm, hphase⟩

/-- Settles O43: `exec_calFit_enabled` with the polynomial of `polyTap_floor`. -/
theorem calFitCommits : Obligations.CalFitCommits := by
  intro s hfsm hphase
  obtain ⟨hlo, hhi⟩ := polyTap_floor s.cal.c0L s.cal.c1L s.cal.c2L s.card.temp
  refine ⟨_, hlo, hhi, ?_⟩
  rw [exec_calFit_enabled hfsm hphase rfl, dwrite_dlyTap, outsideS32_eq]
  rfl

end Sys2Proof.Machine
end

section
/-! PROOFS. The device lifecycle (spec/44_device.md): what `nop`, `dev.open`, `dev.close` and the three teardown steps
answer, each by its guard. -/

namespace Sys2Proof.Machine

/-! ## `nop` -/

/-- Settles O47: `nop` is `complete` with its own opcode (spec/44_device.md R217). -/
theorem nopWritesErrOnly : Obligations.NopWritesErrOnly :=
  ⟨rfl, fun _ => rfl⟩

/-! ## `dev.open` -/

section DevOpen

variable {s : State}

/-- The lifecycle guard of `dev.open` comes first (spec/60_exceptions.md R238). -/
theorem exec_devOpen_state (h : s.life.fatal = true ∨ s.life.dev ≠ .closed) :
    exec .devOpen s = .next (s.setErr .state opcDevOpen) :=
  if_pos h

theorem devOpen_guard_passes (hfatal : s.life.fatal = false) (hdev : s.life.dev = .closed) :
    ¬ (s.life.fatal = true ∨ s.life.dev ≠ .closed) := by
  simp [hfatal, hdev]

/-- Past that guard the capacity decides (spec/44_device.md R216). -/
theorem exec_devOpen_config (hfatal : s.life.fatal = false) (hdev : s.life.dev = .closed)
    (hcap : ¬ ∃ n, 1 ≤ n ∧ n ≤ Config.rbCapMaxLog2 ∧ s.cfg.rbCap.toNat = 2 ^ n) :
    exec .devOpen s = .next (s.setErr .config opcDevOpen) := by
  have hrefused : ringCapOk s.cfg.rbCap = false := Bool.eq_false_iff.mpr (mt ringCapOk_iff.mp hcap)
  exact (if_neg (devOpen_guard_passes hfatal hdev)).trans (if_pos hrefused)

/-- The state an accepted `dev.open` reaches in each mode, but for `ERR` (spec/44_device.md R216). -/
def State.openedIn (s : State) : CapMode → State
  | .poll => s.openDevice
  | .irq => s.openDevice.primeIrq

theorem exec_devOpen_accepted (hfatal : s.life.fatal = false) (hdev : s.life.dev = .closed)
    (hcap : ∃ n, 1 ≤ n ∧ n ≤ Config.rbCapMaxLog2 ∧ s.cfg.rbCap.toNat = 2 ^ n) {m : CapMode} (hmode : s.cfg.mode = m) :
    exec .devOpen s = .next ((s.openedIn m).setErr .ok opcDevOpen) := by
  have hok : ¬ ringCapOk s.cfg.rbCap = false := by simp [ringCapOk_iff.mpr hcap]
  change execDevOpen s = _
  rw [execDevOpen, if_neg (devOpen_guard_passes hfatal hdev), if_neg hok, hmode]
  cases m <;> rfl

theorem openDevice_of_mode {m : CapMode} (h : s.cfg.mode = m) :
    s.openDevice = { s.openDevice with capt := { s.openDevice.capt with mode := m } } := by
  subst h
  rfl

end DevOpen

/-- Settles O48: an accepted `dev.open` (`exec_devOpen_accepted`) in the mode that `CAP_MODE[0]` selects
(`openDevice_of_mode`). -/
theorem devOpenOpens : Obligations.DevOpenOpens := by
  refine fun s hfatal hdev hcap => ⟨fun hpoll => ?poll, fun hirq => ?irq⟩
  case poll =>
    have hmode : s.cfg.mode = .poll := by simp [HostCfg.mode, hpoll]
    rw [exec_devOpen_accepted hfatal hdev hcap hmode, State.openedIn, openDevice_of_mode hmode]
    rfl
  case irq =>
    have hmode : s.cfg.mode = .irq := by simp [HostCfg.mode, hirq]
    rw [exec_devOpen_accepted hfatal hdev hcap hmode, State.openedIn, openDevice_of_mode hmode]
    rfl

/-- Settles O49: STATE by the first guard (`exec_devOpen_state`), CONFIG by the second (`exec_devOpen_config`). -/
theorem devOpenErrors : Obligations.DevOpenErrors :=
  fun _ => ⟨exec_devOpen_state, exec_devOpen_config⟩

/-! ## `dev.close` -/

section DevClose

variable {s : State}

theorem exec_devClose_not_opened (hdev : s.life.dev ≠ .opened) :
    exec .devClose s = .next (s.setErr .ok opcDevClose) := by
  change execDevClose s = _
  unfold execDevClose
  cases h : s.life.dev with
  | closed | closing => rfl
  | opened => exact absurd h hdev

/-- An OPEN device closes unless a run is in progress (spec/44_device.md R218). -/
theorem exec_devClose_opened (hdev : s.life.dev = .opened) :
    exec .devClose s =
      if s.cal.running = true then raise .busy opcDevClose s
      else complete opcDevClose { s with life := { s.life with dev := .closing, phase := .stopCapture } } := by
  change execDevClose s = _
  rw [execDevClose, hdev]

end DevClose

/-- Settles O50: a device that is not OPEN has nothing to close (`exec_devClose_not_opened`); in OPEN the calibrator's
state decides whether a run is in progress (`exec_devClose_opened`). -/
theorem devCloseResult : Obligations.DevCloseResult := by
  refine ⟨rfl, fun s => ⟨exec_devClose_not_opened, fun hdev hrun => ?busy, fun hdev hidle => ?closes⟩⟩
  case busy =>
    rw [exec_devClose_opened hdev, if_pos (running_iff.mpr hrun)]
    rfl
  case closes =>
    rw [exec_devClose_opened hdev, if_neg (Bool.eq_false_iff.mp (not_running_iff.mpr hidle))]
    rfl

/-! ## The teardown -/

section Teardown

variable {s : State}

/-- The first teardown step in polled mode, where there is no interrupt to disable (spec/44_device.md R219). -/
theorem exec_lcStopCapture_polled (h : s.life.dev = .closing ∧ s.life.phase = .stopCapture ∧ s.capt.dr = .idle)
    (hmode : s.capt.mode = .poll) :
    exec .lcStopCapture s = .next { s with life := { s.life with phase := .stopComp } } := by
  change execLcStopCapture s = _
  rw [execLcStopCapture, if_pos h, hmode]

/-- In interrupt mode it disables the interrupt, which drops a pending one (spec/44_device.md R219). -/
theorem exec_lcStopCapture_irq (h : s.life.dev = .closing ∧ s.life.phase = .stopCapture ∧ s.capt.dr = .idle)
    (hmode : s.capt.mode = .irq) :
    exec .lcStopCapture s = .next
      { s with
        card := { s.card with irqEn := false, irqPend := false }
        port := s.port ++ [.write .irqEn 0#32]
        life := { s.life with phase := .stopComp } } := by
  change execLcStopCapture s = _
  rw [execLcStopCapture, if_pos h, hmode]
  simp only [State.dwrite, written_irqEn_zero]
  rfl

end Teardown

/-- Settles O51: each step by its guard, the first one by the mode too; a step whose guard fails holds (log 2). -/
theorem teardownSteps : Obligations.TeardownSteps := fun _ =>
  ⟨exec_lcStopCapture_polled, exec_lcStopCapture_irq, fun h => if_neg h, fun h => if_pos h, fun h => if_neg h,
    fun h => if_pos h, fun h => if_neg h⟩

end Sys2Proof.Machine
end

section
/-! PROOFS. The errors a command reports (spec/60_exceptions.md): the checks of `cal.start` in their precedence (R238,
R240), and that nothing but a command word or reset writes `ERR` (R237, R258). -/

namespace Sys2Proof.Machine

/-! ## The errors of `cal.start` -/

/-- What makes `cal.start` refuse the configuration (spec/43_calibrator.md R180, spec/60_exceptions.md R239). -/
theorem calOk_eq_false_iff {c : HostCfg} :
    c.calOk = false ↔ (¬ ∃ n, n ≤ Config.calNMaxLog2 ∧ c.calN.toNat = 2 ^ n) ∨
      c.scaleDen = 0#32 ∨ c.binFp = 0#32 ∨ c.waitMax = 0#32 := by
  simp only [← Bool.not_eq_true, calOk_iff, not_and_or, ne_eq, not_not]

/-- The fatal teardown of an OPEN device (spec/44_device.md R221). -/
theorem fatalTeardown_opened {s : State} (hdev : s.life.dev = .opened) :
    s.fatalTeardown = { s with life := { s.life with fatal := true, dev := .closing, phase := .stopCapture } } :=
  ((fatalTeardown_cases s).resolve_right fun h => h.1 hdev).2

section CalStartChecks

variable {s : State} {ch : BitVec 4}

/-- The lifecycle guard of `cal.start` comes first (spec/60_exceptions.md R238). -/
theorem exec_calStart_state (h : s.life.fatal = true ∨ s.life.dev ≠ .opened) :
    exec (.calStart ch) s = .next (s.setErr .state opcCalStart) :=
  if_pos h

theorem calStart_guard_passes (hfatal : s.life.fatal = false) (hdev : s.life.dev = .opened) :
    ¬ (s.life.fatal = true ∨ s.life.dev ≠ .opened) := by
  simp [hfatal, hdev]

/-- Past that guard a run in progress decides. -/
theorem exec_calStart_busy (hfatal : s.life.fatal = false) (hdev : s.life.dev = .opened)
    (hrun : s.cal.running = true) : exec (.calStart ch) s = .next (s.setErr .busy opcCalStart) :=
  (if_neg (calStart_guard_passes hfatal hdev)).trans (if_pos hrun)

/-- Without one the channel and the configuration decide. -/
theorem exec_calStart_config (hfatal : s.life.fatal = false) (hdev : s.life.dev = .opened)
    (hrun : s.cal.running = false) (h : 4 ≤ ch.toNat ∨ s.cfg.calOk = false) :
    exec (.calStart ch) s = .next (s.setErr .config opcCalStart) := by
  change execCalStart ch s = _
  rw [execCalStart, if_neg (calStart_guard_passes hfatal hdev), if_neg (Bool.eq_false_iff.mp hrun)]
  cases hch : Chan.ofNat? ch.toNat with
  | none => rfl
  | some k =>
    have hvalid : ¬ 4 ≤ ch.toNat := by simp [← Chan.ofNat?_eq_none, hch]
    exact if_pos (h.resolve_left hvalid)

/-- Past the configuration the self-test decides, and then the lock. -/
theorem exec_calStart_configured (hfatal : s.life.fatal = false) (hdev : s.life.dev = .opened)
    (hrun : s.cal.running = false) (hvalid : ¬ 4 ≤ ch.toNat) (hcfg : ¬ s.cfg.calOk = false) :
    ∃ k, exec (.calStart ch) s =
      if s.card.selftestOk = false then
        raise .hwFault opcCalStart ({ s with cal := { s.cal with err := .hwFault } } : State).fatalTeardown
      else if s.life.lock ≠ .free then raise .busy opcCalStart s
      else complete opcCalStart { s with cal := s.cal.started s.cfg k, life := { s.life with lock := .cal } } := by
  change ∃ k, execCalStart ch s = _
  rw [execCalStart, if_neg (calStart_guard_passes hfatal hdev), if_neg (Bool.eq_false_iff.mp hrun)]
  cases hch : Chan.ofNat? ch.toNat with
  | none => exact absurd (Chan.ofNat?_eq_none.mp hch) hvalid
  | some k => exact ⟨k, if_neg hcfg⟩

end CalStartChecks

/-- Settles O38: the lifecycle guard, a run in progress, the configuration (`calOk_eq_false_iff`), and past them
(`exec_calStart_configured`) the self-test, whose failure tears the OPEN device down, and the lock. -/
theorem calStartErrors : Obligations.CalStartErrors := by
  refine fun s ch => ⟨exec_calStart_state, fun hfatal hdev => ⟨fun hfsm => ?busy, fun hfsm => ?_⟩⟩
  case busy => exact exec_calStart_busy hfatal hdev (running_iff.mpr hfsm)
  have hrun := not_running_iff.mpr hfsm
  refine ⟨fun hbad => ?config, fun hgood hself => ?hwFault, fun hgood hself hlock => ?lock⟩
  case config => exact exec_calStart_config hfatal hdev hrun (hbad.imp_right calOk_eq_false_iff.mpr)
  all_goals
    obtain ⟨hvalid, hcfg⟩ := not_or.mp hgood
    obtain ⟨k, hexec⟩ := exec_calStart_configured hfatal hdev hrun hvalid (mt calOk_eq_false_iff.mp hcfg)
  case hwFault =>
    have hteardown := fatalTeardown_opened (s := { s with cal := { s.cal with err := .hwFault } }) hdev
    rw [hexec, if_pos hself, hteardown]
    rfl
  case lock =>
    rw [hexec, if_neg (by simp [hself]), if_pos hlock]
    rfl

/-! ## What writes `ERR` -/

/-- `ERR` is the same in both states. -/
structure SameErr (s t : State) : Prop where
  code : t.errCode = s.errCode
  op : t.errOp = s.errOp

theorem SameErr.refl (s : State) : SameErr s s := ⟨rfl, rfl⟩

theorem SameErr.trans {s t u : State} (h : SameErr s t) (k : SameErr t u) : SameErr s u :=
  ⟨k.code.trans h.code, k.op.trans h.op⟩

theorem SameBlock.sameErr {s t : State} (h : SameBlock s t) : SameErr s t := ⟨h.errCode, h.errOp⟩

/-- The instructions that may write `ERR`: the command words, and `rb.new`, which reports for `dev.open` (log 15). -/
def writesErr (i : Instr) : Bool :=
  (encode i).isSome || i == .rbNew

theorem noteDrop_sameErr (s : State) : SameErr s s.noteDrop := by
  rcases noteDrop_spec s with ⟨d, -, h⟩ | ⟨-, h⟩ <;> rw [h] <;> exact ⟨rfl, rfl⟩

theorem ringPush?_sameErr {s t : State} {x : RawSample} (h : s.ringPush? x = some t) : SameErr s t := by
  obtain ⟨c, -, -, rfl⟩ := ringPush?_some h
  have k := noteDrop_sameErr { s with ring := s.ring.push c x }
  exact ⟨k.code, k.op⟩

/-- No internal operation of an agent writes `ERR` (spec/60_exceptions.md R237, R258): how a run ends is in
`CAL_STATE`. -/
theorem exec_sameErr {i : Instr} {s t : State} (hi : writesErr i = false) (h : exec i s = .next t) : SameErr s t := by
  cases i with
  | rbPop | capTick | capIrq | lcStopComp | lcRelease =>
    simp only [exec, execRbPop, execCapTick, execCapIrq, execLcStopComp, execLcRelease] at h
    split at h <;> cases h <;> exact ⟨rfl, rfl⟩
  | rbPush x =>
    simp only [exec, execRbPush] at h
    split at h <;> cases h
    exact ringPush?_sameErr ‹_›
  | capDrainStep =>
    have hcsr := dread_sameBlock .fifoCsr s
    rcases execCapDrainStep_cases h with rfl | ⟨-, u, rfl, ⟨-, rfl⟩ | ⟨-, v, hv, rfl⟩⟩
    · exact .refl _
    · exact hcsr.sameErr.trans ⟨rfl, rfl⟩
    · have hread := (hcsr.trans (readTuple_sameBlock _)).sameErr
      exact (hread.trans (ringPush?_sameErr hv)).trans ⟨rfl, rfl⟩
  | capDrainFinish =>
    rcases execCapDrainFinish_cases h with rfl | ⟨-, u, hu, rfl | rfl⟩
    · exact .refl _
    · exact hu.sameErr.trans ⟨rfl, rfl⟩
    · exact hu.sameErr.trans ⟨rfl, rfl⟩
  | capDeliver => rcases execCapDeliver_cases h with rfl | ⟨-, -, x, r, -, -, rfl⟩ <;> exact ⟨rfl, rfl⟩
  | calShot =>
    rcases execCalShot_cases h with rfl | ⟨-, o, u, -, hu, ⟨code, -, rfl⟩ | ⟨raw, v, -, -, -, rfl⟩⟩
    · exact .refl _
    · exact hu.sameErr.trans ⟨rfl, rfl⟩
    · exact hu.sameErr.trans ⟨rfl, rfl⟩
  | calPoint => rcases execCalPoint_cases h with rfl | ⟨-, ⟨-, rfl⟩ | ⟨-, rfl⟩⟩ <;> exact ⟨rfl, rfl⟩
  | calFit => rcases execCalFit_cases h with rfl | ⟨-, -, off, -, rfl⟩ <;> exact ⟨rfl, rfl⟩
  | lcStopCapture =>
    rcases execLcStopCapture_cases h with rfl | ⟨-, -, -, u, hu, rfl⟩
    · exact .refl _
    · exact hu.sameErr.trans ⟨rfl, rfl⟩
  | nop | tvNorm | tvAdd | tvSub | tvP2t | tvT2p | devOpen | devClose | calStart _ | rbNew => cases hi

theorem drainerOp_writesErr (s : State) : writesErr (drainerOp s) = false := by
  unfold drainerOp
  cases s.capt.dr <;> rfl

theorem lifecycleOp_writesErr {s : State} {i : Instr} (h : lifecycleOp s = some i) : writesErr i = false := by
  unfold lifecycleOp at h
  cases hp : s.life.phase <;> simp only [hp] at h <;> cases h <;> rfl

/-- An agent runs only operations that leave `ERR` alone (spec/30_encoding.md R95, spec/60_exceptions.md R258). -/
theorem eventStep_run_writesErr {e : Event} {i : Instr} {s u : State} (h : eventStep e s = .run i u) :
    (∃ w, e = .hostWrite 0x004 w) ∨ (u = s ∧ writesErr i = false) := by
  rcases eventStep_run_cases h with ⟨w, he, -, -⟩ | ⟨hu, hagent⟩
  · exact .inl ⟨w, he⟩
  refine .inr ⟨hu, ?_⟩
  rcases hagent with ⟨-, rfl⟩ | ⟨-, rfl⟩ | ⟨-, rfl⟩ | ⟨-, hl⟩ | ⟨-, rfl⟩
  · exact drainerOp_writesErr s
  · rfl
  · rcases calibratorOp_cases s with hc | hc | hc <;> rw [hc] <;> rfl
  · exact lifecycleOp_writesErr hl
  · rfl

/-- The host cannot write `ERR` (spec/10_state.md R29). -/
theorem writeCsr_sameErr (s : State) (w : Word) (r : Csr) : SameErr s (writeCsr s w r) := by
  cases r <;> exact ⟨rfl, rfl⟩

/-- A host write outside `CMD` is a bus error or a write of a register, and neither reports in `ERR`
(spec/20_memory.md R63, spec/10_state.md R23). -/
theorem hostWrite_sameErr {off : Nat} {w : Word} {s t : State} (hoff : off ≠ 0x004)
    (h : hostWrite off w s = .done t) : SameErr s t := by
  cases hc : csrAt off with
  | none =>
    simp only [hostWrite, hc] at h
    cases h
    exact ⟨rfl, rfl⟩
  | some r =>
    obtain rfl := csrAt_eq_some.mp hc
    have hr : r ≠ .cmd := fun hr => hoff (congrArg Csr.offset hr)
    rw [hostWrite_register hr] at h
    cases h
    exact writeCsr_sameErr s w r

/-- A step finished at once is a host write to `CMD` or reset, or leaves `ERR` as it is. -/
theorem eventStep_done_sameErr {e : Event} {s t : State} (h : eventStep e s = .done t) :
    (∃ w, e = .hostWrite 0x004 w) ∨ e = .reset ∨ SameErr s t := by
  cases e with
  | reset => exact .inr (.inl rfl)
  | hostWrite off w =>
    by_cases hoff : off = 0x004
    · exact .inl ⟨w, by rw [hoff]⟩
    · exact .inr (.inr (hostWrite_sameErr hoff h))
  | hostRead off =>
    cases h
    unfold State.hostRead
    split <;> exact .inr (.inr ⟨rfl, rfl⟩)
  | lifecycle =>
    cases hop : lifecycleOp s <;> simp only [eventStep, hop] at h <;> cases h
    exact .inr (.inr (.refl _))
  | compAcquire =>
    cases h
    rcases compAcquire_cases s with h | ⟨-, -, h⟩ <;> rw [h] <;> exact .inr (.inr ⟨rfl, rfl⟩)
  | compRelease =>
    cases h
    rcases compRelease_cases s with h | ⟨-, h⟩ <;> rw [h] <;> exact .inr (.inr ⟨rfl, rfl⟩)
  | compWrite ch w =>
    cases h
    unfold State.compWrite
    split <;> exact .inr (.inr ⟨rfl, rfl⟩)
  | envFifo _ | envInputs _ _ | envTdc _ | envFifoCsr _ => cases h; exact .inr (.inr ⟨rfl, rfl⟩)
  | drainer | deliverer | calibrator | envTick => cases h

/-- Settles O58: an agent's instruction leaves `ERR` (`eventStep_run_writesErr`, `exec_sameErr`), and so does what is
finished at once but for an ILLEGAL word written to `CMD` and reset (`eventStep_done_sameErr`). -/
theorem errWrittenByCommandsOnly : Obligations.ErrWrittenByCommandsOnly := by
  intro s t h hreset hcmd
  suffices k : SameErr s t from ⟨k.code, k.op⟩
  rcases step_inversion h with rfl | ⟨e, rest, hs, hstep⟩
  · exact .refl _
  have hhead : s.sched.head? = some e := by rw [hs]; rfl
  have hnot : ¬ ∃ w, e = .hostWrite 0x004 w := by
    rintro ⟨w, rfl⟩
    exact hcmd w hhead
  have hsched : SameErr s { s with sched := rest } := ⟨rfl, rfl⟩
  rcases hstep with ⟨i, u, he, hx⟩ | he
  · obtain ⟨rfl, hi⟩ := (eventStep_run_writesErr he).resolve_left hnot
    exact hsched.trans (exec_sameErr hi hx)
  · rcases (eventStep_done_sameErr he).resolve_left hnot with rfl | hsame
    · exact absurd hhead hreset
    · exact hsched.trans hsame

end Sys2Proof.Machine
end

section
/-! PROOFS. Reset (spec/70_reset_and_hazards.md R266 to R268): the reset table and the invariants there, that `FATAL`
stays until reset (R267), and that no tuple is stranded in the card FIFO (R271, R272). -/

namespace Sys2Proof.Machine

/-! ## The reset table -/

/-- A register that is none of the five reads the same whatever the reset values (spec/00_scope.md R8). -/
theorem readCsr_resetWith_congr (p q : ResetValues) {r : Csr}
    (hr : r ∉ [.pollMs, .scaleNum, .scaleDen, .waitMax, .compPeriod]) :
    readCsr (State.resetWith p) r = readCsr (State.resetWith q) r := by
  cases r with
  | pollMs | scaleNum | scaleDen | waitMax | compPeriod => simp at hr
  | _ => rfl

/-- The registers that read 0 in the reset table of the spec's own defaults (spec/70_reset_and_hazards.md R266). -/
theorem readCsr_resetWith_specDefault : ∀ r ∈ csrAll,
    r ∉ [.id, .pollMs, .scaleNum, .scaleDen, .waitMax, .compPeriod, .inputs] →
      readCsr (State.resetWith .specDefault) r = 0#32 := by
  decide

/-- They read 0 whatever the block's parameters are. -/
theorem readCsr_resetWith_zero (p : ResetValues) {r : Csr}
    (hr : r ∉ [.id, .pollMs, .scaleNum, .scaleDen, .waitMax, .compPeriod, .inputs]) :
    readCsr (State.resetWith p) r = 0#32 := by
  have hfixed : r ∉ [.pollMs, .scaleNum, .scaleDen, .waitMax, .compPeriod] := by
    simp only [List.mem_cons, not_or] at hr ⊢
    tauto
  rw [readCsr_resetWith_congr p .specDefault hfixed]
  exact readCsr_resetWith_specDefault r (csrAll_mem r) hr

/-- After a reset event every register but `INPUTS`, whose levels come from outside, reads as in the reset state
(spec/70_reset_and_hazards.md R268, log 10). -/
theorem readCsr_resetBlock (s : State) {r : Csr} (hr : r ≠ .inputs) :
    readCsr s.resetBlock r = readCsr State.reset r := by
  cases r with
  | inputs => exact absurd rfl hr
  | _ => rfl

theorem step_reset {s : State} {rest : List Event} (hs : s.sched = .reset :: rest) :
    step s = .next ({ s with sched := rest } : State).resetBlock := by
  rw [step_of_sched_cons hs, eventStep, Fetched.outcome_done]

/-- Settles O53: a reset event is `State.resetBlock` (`step_reset`), where the registers read as in the reset state
(`readCsr_resetBlock`): 0 (`readCsr_resetWith_zero`) but for `ID`, the inputs and the five parameters, which are read
off. -/
theorem resetStateTable : Obligations.ResetStateTable := by
  refine ⟨fun s rest hs => ⟨_, step_reset hs, ?_⟩, ⟨rfl, rfl, rfl, rfl, rfl⟩,
    fun p r hr => readCsr_resetWith_congr p _ hr⟩
  refine ⟨rfl, rfl, rfl, rfl, rfl, rfl, fun r hr => ?zero, ?fields⟩
  case zero =>
    have hinputs : r ≠ .inputs := by
      rintro rfl
      simp at hr
    rw [readCsr_resetBlock _ hinputs]
    exact readCsr_resetWith_zero _ hr
  case fields => exact ⟨rfl, rfl, rfl, rfl, rfl, rfl, rfl, rfl, rfl, rfl, rfl, rfl, rfl, rfl, rfl, rfl, rfl, rfl, rfl,
    rfl, rfl, rfl, rfl, rfl⟩

/-! ## When no tuple is stranded -/

theorem NoStrandedTuple.of_not_opened {s : State} (h : s.life.dev ≠ .opened) : NoStrandedTuple s where
  enabled hdev := absurd hdev h
  pending hdev := absurd hdev h

theorem NoStrandedTuple.of_polled {s : State} (h : s.capt.mode = .poll) : NoStrandedTuple s where
  enabled _ hmode := by simp [h] at hmode
  pending _ hmode := by simp [h] at hmode

/-- A drain in progress will find the tuples that wait (spec/70_reset_and_hazards.md R271). -/
theorem NoStrandedTuple.of_draining {s : State} (hen : s.life.dev = .opened → s.capt.mode = .irq → s.card.irqEn = true)
    (hdr : s.capt.dr ≠ .idle) : NoStrandedTuple s where
  enabled := hen
  pending _ _ hidle := absurd hidle hdr

theorem NoStrandedTuple.of_empty {s : State} (hen : s.life.dev = .opened → s.capt.mode = .irq → s.card.irqEn = true)
    (hfifo : s.card.fifo = []) : NoStrandedTuple s where
  enabled := hen
  pending _ _ _ hne := absurd hfifo hne

/-- Settles O54: the machine's invariant is `inv_reset`, the times are those after a reset of the reset state
(`resetBlock_times`), and the device is CLOSED. -/
theorem invariantsAtReset : Obligations.InvariantsAtReset :=
  ⟨inv_reset, .of_not_opened nofun, resetBlock_times State.reset⟩

/-! ## Steps that can strand no tuple -/

/-- No tuple arrives in the card FIFO, and the interrupt's enable and latch stay (spec/20_memory.md R68). -/
structure Card.LatchKept (c d : Card) : Prop where
  fifo : c.fifo = [] → d.fifo = []
  irqEn : d.irqEn = c.irqEn
  irqPend : d.irqPend = c.irqPend

theorem Card.LatchKept.refl (c : Card) : c.LatchKept c := ⟨id, rfl, rfl⟩

theorem Card.LatchKept.trans {c d e : Card} (h : c.LatchKept d) (k : d.LatchKept e) : c.LatchKept e :=
  ⟨k.fifo ∘ h.fifo, k.irqEn.trans h.irqEn, k.irqPend.trans h.irqPend⟩

theorem headField_latchKept (f : CardTuple → Word) (s : State) : s.card.LatchKept (s.headField f).2.card := by
  rw [headField_card]
  exact .refl _

theorem tdcDraw_latchKept (s : State) : s.card.LatchKept s.tdcDraw.2.card := by
  unfold State.tdcDraw
  split <;> exact ⟨id, rfl, rfl⟩

theorem popCard_latchKept (s : State) : s.card.LatchKept s.popCard.card :=
  ⟨fun h => by rw [popCard_fifo, h, List.tail_nil], rfl, rfl⟩

/-- A downstream read leaves the latch as it is, and takes at most a tuple (spec/20_memory.md R67, R69). -/
theorem dread_latchKept (r : ReadReg) (s : State) : s.card.LatchKept (s.dread r).2.card := by
  cases r with
  | fifoCsr => exact .refl _
  | fifoUtcHi | fifoUtcLo | fifoCoarse | fifoFrac => exact headField_latchKept _ s
  | fifoMeta => exact (headField_latchKept _ s).trans (popCard_latchKept _)
  | tdcStatus | tdcResult => exact tdcDraw_latchKept s

theorem readTuple_latchKept (s : State) : s.card.LatchKept s.readTuple.2.card :=
  ((((dread_latchKept .fifoUtcHi s).trans (dread_latchKept .fifoUtcLo _)).trans (dread_latchKept .fifoCoarse _)).trans
    (dread_latchKept .fifoFrac _)).trans (dread_latchKept .fifoMeta _)

theorem armShot_latchKept (s : State) : s.card.LatchKept s.armShot.card := ⟨id, rfl, rfl⟩

theorem tdcWait_latchKept (n : Nat) (s : State) : s.card.LatchKept (s.tdcWait n).2.card := by
  induction n generalizing s with
  | zero => exact .refl _
  | succ n ih =>
    have hstatus := dread_latchKept .tdcStatus s
    simp only [State.tdcWait]
    split
    · exact hstatus
    · split
      · exact hstatus.trans (dread_latchKept .tdcResult _)
      · exact hstatus.trans (ih _)

/-- `FATAL` is not cleared, the device does not become OPEN, the capture mode stays, no drain ends, and the card's latch
and FIFO are left to the environment. -/
structure Steady (s t : State) : Prop where
  fatal : s.life.fatal = true → t.life.fatal = true
  dev : t.life.dev = .opened → s.life.dev = .opened
  mode : t.capt.mode = s.capt.mode
  dr : t.capt.dr = .idle → s.capt.dr = .idle
  card : s.card.LatchKept t.card

theorem Steady.refl (s : State) : Steady s s := ⟨id, id, rfl, id, .refl _⟩

theorem Steady.trans {s t u : State} (h : Steady s t) (k : Steady t u) : Steady s u :=
  ⟨k.fatal ∘ h.fatal, h.dev ∘ k.dev, k.mode.trans h.mode, h.dr ∘ k.dr, h.card.trans k.card⟩

theorem SameBlock.steady {s t : State} (h : SameBlock s t) (hcard : s.card.LatchKept t.card) : Steady s t where
  fatal hf := by rw [h.life, hf]
  dev hd := by rw [← h.life, hd]
  mode := by rw [h.capt]
  dr hd := by rw [← h.capt, hd]
  card := hcard

/-- A tuple that a steady step leaves waiting was waiting before. -/
theorem Steady.noStrandedTuple {s t : State} (k : Steady s t) (h : NoStrandedTuple s) : NoStrandedTuple t where
  enabled hdev hmode := k.card.irqEn.trans (h.enabled (k.dev hdev) (k.mode.symm.trans hmode))
  pending hdev hmode hdr hne :=
    k.card.irqPend.trans (h.pending (k.dev hdev) (k.mode.symm.trans hmode) (k.dr hdr) (mt k.card.fifo hne))

theorem fatalTeardown_steady (s : State) : Steady s s.fatalTeardown := by
  rcases fatalTeardown_cases s with ⟨-, h⟩ | ⟨-, h⟩ <;> rw [h]
  · exact ⟨fun _ => rfl, nofun, rfl, id, .refl _⟩
  · exact ⟨fun _ => rfl, id, rfl, id, .refl _⟩

theorem ringPush?_steady {s t : State} {x : RawSample} (h : s.ringPush? x = some t) : Steady s t := by
  obtain ⟨c, -, -, rfl⟩ := ringPush?_some h
  constructor <;> simp [Card.LatchKept.refl]

/-! ## Instructions that can strand no tuple -/

/-- The instructions that open the device, end a drain, or write the interrupt's enable or latch. -/
def movesLatch : Instr → Bool
  | .devOpen | .capDrainFinish | .lcStopCapture => true
  | _ => false

theorem exec_steady {i : Instr} {s t : State} (hi : movesLatch i = false) (h : exec i s = .next t) : Steady s t := by
  cases i with
  | nop | tvP2t => cases h; exact ⟨id, id, rfl, id, .refl _⟩
  | tvNorm | tvAdd | tvSub | tvT2p | rbNew | rbPop | lcStopComp =>
    simp only [exec, execTvNorm, execTvAdd, execTvSub, execTvT2p, execRbNew, execRbPop, execLcStopComp] at h
    split at h <;> cases h <;> exact ⟨id, id, rfl, id, .refl _⟩
  | capTick | capIrq =>
    simp only [exec, execCapTick, execCapIrq] at h
    split at h <;> cases h
    · exact ⟨id, id, rfl, nofun, .refl _⟩
    · exact .refl _
  | lcRelease =>
    simp only [exec, execLcRelease] at h
    split at h <;> cases h
    · exact ⟨id, nofun, rfl, id, .refl _⟩
    · exact .refl _
  | devClose =>
    rcases execDevClose_cases h with ⟨code, rfl⟩ | ⟨-, -, rfl⟩
    · exact ⟨id, id, rfl, id, .refl _⟩
    · exact ⟨id, nofun, rfl, id, .refl _⟩
  | calStart ch =>
    rcases execCalStart_cases h with ⟨code, rfl⟩ | rfl | ⟨-, -, -, -, -, c, -, rfl⟩
    · exact ⟨id, id, rfl, id, .refl _⟩
    · have k := fatalTeardown_steady { s with cal := { s.cal with err := .hwFault } }
      exact ⟨k.fatal, k.dev, k.mode, k.dr, k.card⟩
    · exact ⟨id, id, rfl, id, .refl _⟩
  | rbPush x =>
    simp only [exec, execRbPush] at h
    split at h <;> cases h
    exact ringPush?_steady ‹_›
  | capDrainStep =>
    have hcsr := (dread_sameBlock .fifoCsr s).steady (dread_latchKept .fifoCsr s)
    rcases execCapDrainStep_cases h with rfl | ⟨-, u, rfl, ⟨-, rfl⟩ | ⟨-, v, hv, rfl⟩⟩
    · exact .refl _
    · exact hcsr.trans ⟨id, id, rfl, nofun, .refl _⟩
    · have htuple := (readTuple_sameBlock (s.dread .fifoCsr).2).steady (readTuple_latchKept _)
      exact ((hcsr.trans htuple).trans (ringPush?_steady hv)).trans ⟨id, id, rfl, id, .refl _⟩
  | capDeliver => rcases execCapDeliver_cases h with rfl | ⟨-, -, x, r, -, -, rfl⟩ <;> exact ⟨id, id, rfl, id, .refl _⟩
  | calShot =>
    rcases execCalShot_cases h with rfl | ⟨-, o, u, hwait, hu, hend⟩
    · exact .refl _
    have hcard := (armShot_latchKept s).trans (tdcWait_latchKept s.cal.waitL.toNat s.armShot)
    rw [hwait] at hcard
    have hread := hu.steady hcard
    rcases hend with ⟨code, -, rfl⟩ | ⟨raw, v, -, -, -, rfl⟩
    · exact hread.trans ⟨id, id, rfl, id, ⟨id, rfl, rfl⟩⟩
    · exact hread.trans ⟨id, id, rfl, id, .refl _⟩
  | calPoint => rcases execCalPoint_cases h with rfl | ⟨-, ⟨-, rfl⟩ | ⟨-, rfl⟩⟩ <;> exact ⟨id, id, rfl, id, .refl _⟩
  | calFit =>
    rcases execCalFit_cases h with rfl | ⟨-, -, off, -, rfl⟩
    · exact .refl _
    · exact ⟨id, id, rfl, id, ⟨id, rfl, rfl⟩⟩
  | devOpen | capDrainFinish | lcStopCapture => cases hi

/-- A write of a register is steady: no capture, lifecycle or card register is writable by the host
(spec/10_state.md R23). -/
theorem writeCsr_steady (s : State) (w : Word) (r : Csr) : Steady s (writeCsr s w r) := by
  cases r <;> exact ⟨id, id, rfl, id, .refl _⟩

theorem eventStep_run_steady {e : Event} {i : Instr} {s u : State} (h : eventStep e s = .run i u) : Steady s u := by
  rcases eventStep_run_cases h with ⟨w, -, -, rfl⟩ | ⟨rfl, -⟩ <;> exact ⟨id, id, rfl, id, .refl _⟩

/-- A step finished at once is reset, appends a tuple, or is steady. -/
theorem eventStep_done_steady {e : Event} {s t : State} (h : eventStep e s = .done t) :
    (e = .reset ∧ t = s.resetBlock) ∨ (∃ p, t = { s with card := s.card.appendTuple p }) ∨ Steady s t := by
  cases e with
  | reset => cases h; exact .inl ⟨rfl, rfl⟩
  | envFifo p => cases h; exact .inr (.inl ⟨p, rfl⟩)
  | hostRead off =>
    cases h
    unfold State.hostRead
    split <;> exact .inr (.inr ⟨id, id, rfl, id, .refl _⟩)
  | hostWrite off w =>
    rcases hostWrite_cases off w s with ⟨j, -, -, hw⟩ | hw | ⟨r, -, hw⟩ | hw <;> rw [eventStep, hw] at h <;> cases h
    · exact .inr (.inr ⟨id, id, rfl, id, .refl _⟩)
    · exact .inr (.inr (writeCsr_steady s w r))
    · exact .inr (.inr ⟨id, id, rfl, id, .refl _⟩)
  | lifecycle =>
    cases hop : lifecycleOp s <;> simp only [eventStep, hop] at h <;> cases h
    exact .inr (.inr (.refl _))
  | compAcquire =>
    cases h
    rcases compAcquire_cases s with h | ⟨-, -, h⟩ <;> rw [h] <;> exact .inr (.inr ⟨id, id, rfl, id, .refl _⟩)
  | compRelease =>
    cases h
    rcases compRelease_cases s with h | ⟨-, h⟩ <;> rw [h] <;> exact .inr (.inr ⟨id, id, rfl, id, .refl _⟩)
  | compWrite ch w =>
    cases h
    unfold State.compWrite
    split <;> exact .inr (.inr ⟨id, id, rfl, id, ⟨id, rfl, rfl⟩⟩)
  | envInputs _ _ | envTdc _ | envFifoCsr _ => cases h; exact .inr (.inr ⟨id, id, rfl, id, ⟨id, rfl, rfl⟩⟩)
  | drainer | deliverer | calibrator | envTick => cases h

/-! ## `FATAL` -/

/-- No instruction clears `FATAL` (spec/70_reset_and_hazards.md R267). -/
theorem exec_fatal {i : Instr} {s t : State} (hf : s.life.fatal = true) (h : exec i s = .next t) :
    t.life.fatal = true := by
  by_cases hi : movesLatch i = false
  · exact (exec_steady hi h).fatal hf
  cases i with
  | devOpen =>
    rcases execDevOpen_cases h with ⟨code, rfl⟩ | ⟨hclear, -⟩
    · exact hf
    · rw [hf] at hclear
      cases hclear
  | capDrainFinish =>
    rcases execCapDrainFinish_cases h with rfl | ⟨-, u, hu, rfl | rfl⟩
    · exact hf
    all_goals exact (congrArg Lifecycle.fatal hu.life).trans hf
  | lcStopCapture =>
    rcases execLcStopCapture_cases h with rfl | ⟨-, -, -, u, hu, rfl⟩
    · exact hf
    · exact (congrArg Lifecycle.fatal hu.life).trans hf
  | _ => exact absurd rfl hi

/-- A step that is not reset keeps `FATAL` (spec/70_reset_and_hazards.md R267). -/
theorem step_fatal {s t : State} (hf : s.life.fatal = true) (h : step s = .next t)
    (hreset : s.sched.head? ≠ some .reset) : t.life.fatal = true := by
  rcases step_inversion h with rfl | ⟨e, rest, hs, ⟨i, u, he, hx⟩ | he⟩
  · exact hf
  · exact exec_fatal ((eventStep_run_steady he).fatal hf) hx
  · rcases eventStep_done_steady he with ⟨rfl, -⟩ | ⟨p, rfl⟩ | k
    · exact absurd (by rw [hs]; rfl) hreset
    · exact hf
    · exact k.fatal hf

/-- Settles O52: `step_fatal`, and the lifecycle guards of the two commands, which come first
(spec/44_device.md R221). -/
theorem fatalUntilReset : Obligations.FatalUntilReset := fun _ hf =>
  ⟨fun _ => step_fatal hf, exec_devOpen_state (.inl hf), fun _ => exec_calStart_state (.inl hf)⟩

/-! ## No tuple is stranded -/

/-- `dev.open` in interrupt mode enables the interrupt and drains what waits already (spec/44_device.md R216). -/
theorem NoStrandedTuple.devOpen {s t : State} (h : NoStrandedTuple s) (hx : execDevOpen s = .next t) :
    NoStrandedTuple t := by
  rcases execDevOpen_cases hx with ⟨code, rfl⟩ | ⟨-, -, -, ⟨hpoll, rfl⟩ | ⟨-, rfl⟩⟩
  · exact ⟨h.enabled, h.pending⟩
  · exact .of_polled hpoll
  · exact .of_draining (fun _ _ => rfl) nofun

/-- A drain in interrupt context acknowledges before it looks at the FIFO again, and ends only on an empty one
(spec/42_capture.md R151, spec/70_reset_and_hazards.md R271); a drain in polled context is none of interrupt mode. -/
theorem NoStrandedTuple.capDrainFinish {s t : State} (hinv : Inv s) (h : NoStrandedTuple s)
    (hx : exec .capDrainFinish s = .next t) : NoStrandedTuple t := by
  by_cases hdr : s.capt.dr = .finish
  · have hmode : s.capt.drCtx = s.capt.mode := hinv.life.drainMode (by simp [hdr])
    cases hctx : s.capt.drCtx with
    | poll =>
      cases (exec_capDrainFinish_poll hdr hctx).symm.trans hx
      exact .of_polled (hmode.symm.trans hctx)
    | irq =>
      obtain ⟨v, -, hexec⟩ := exec_capDrainFinish_irq hdr hctx
      cases hexec.symm.trans hx
      split
      · exact .of_empty h.enabled (List.isEmpty_iff.mp ‹_›)
      · exact .of_draining h.enabled nofun
  · have hheld : exec .capDrainFinish s = .next s := if_neg hdr
    cases hheld.symm.trans hx
    exact h

/-- The interrupt is disabled only while the device is CLOSING (spec/44_device.md R219). -/
theorem NoStrandedTuple.lcStopCapture {s t : State} (h : NoStrandedTuple s) (hx : execLcStopCapture s = .next t) :
    NoStrandedTuple t := by
  rcases execLcStopCapture_cases hx with rfl | ⟨hdev, -, -, u, hu, rfl⟩
  · exact h
  · exact .of_not_opened (by simp [hu.life, hdev])

theorem NoStrandedTuple.exec {i : Instr} {s t : State} (hinv : Inv s) (h : NoStrandedTuple s)
    (hx : exec i s = .next t) : NoStrandedTuple t := by
  by_cases hi : movesLatch i = false
  · exact (exec_steady hi hx).noStrandedTuple h
  cases i with
  | devOpen => exact h.devOpen hx
  | capDrainFinish => exact h.capDrainFinish hinv hx
  | lcStopCapture => exact h.lcStopCapture hx
  | _ => exact absurd rfl hi

/-- A tuple that arrives in an empty FIFO latches the enabled interrupt; one that arrives behind another finds it
latched or the drainer busy (spec/20_memory.md R68, spec/70_reset_and_hazards.md R272). -/
theorem NoStrandedTuple.appendTuple {s : State} (h : NoStrandedTuple s) (p : CardTuple) :
    NoStrandedTuple { s with card := s.card.appendTuple p } where
  enabled := h.enabled
  pending hdev hmode hdr _ := by
    by_cases hfifo : s.card.fifo = []
    · rw [appendTuple_edge hfifo (h.enabled hdev hmode)]
    · rw [appendTuple_no_edge (.inl hfifo)]
      exact h.pending hdev hmode hdr hfifo

/-- Settles O57: an instruction keeps it (`NoStrandedTuple.exec`), and so does what is finished at once: reset, after
which the device is CLOSED, a tuple's arrival (`NoStrandedTuple.appendTuple`), and steps that are steady. -/
theorem noTupleStranded : Obligations.NoTupleStranded := by
  intro s t hinv h hst
  rcases step_inversion hst with rfl | ⟨e, rest, -, hstep⟩
  · exact h
  have hsched : NoStrandedTuple { s with sched := rest } := ⟨h.enabled, h.pending⟩
  rcases hstep with ⟨i, u, he, hx⟩ | he
  · have hbegin : Inv { s with sched := rest } := hinv.congr rfl rfl rfl rfl rfl rfl
    exact ((eventStep_run_steady he).noStrandedTuple hsched).exec (hbegin.eventStep_run he) hx
  · rcases eventStep_done_steady he with ⟨-, rfl⟩ | ⟨p, rfl⟩ | k
    · exact .of_not_opened nofun
    · exact hsched.appendTuple p
    · exact k.noStrandedTuple hsched

end Sys2Proof.Machine
end

section
/-! PROOFS. Making the ring (spec/41_ringbuffer.md R132): what `rb.new` answers to each capacity. -/

namespace Sys2Proof.Machine

/-- An accepted capacity starts an empty ring (spec/41_ringbuffer.md R132). -/
theorem exec_rbNew_accepted {s : State} (hcap : ringCapOk s.cfg.rbCap = true) :
    exec .rbNew s = .next (s.ringNew s.cfg.rbCap) :=
  if_pos hcap

/-- Any other capacity is CONFIG with the OP of `dev.open` (log 15). -/
theorem exec_rbNew_config {s : State} (hcap : ¬ ringCapOk s.cfg.rbCap = true) :
    exec .rbNew s = .next (s.setErr .config opcDevOpen) :=
  if_neg hcap

/-- Settles O22: the capacity check is the statement's (`ringCapOk_iff`), and it decides which of `exec_rbNew_accepted`
and `exec_rbNew_config` answers. -/
theorem rbNewAcceptsPowersOfTwo : Obligations.RbNewAcceptsPowersOfTwo := by
  refine fun s => ⟨fun hlegal => ?accepted, fun hillegal => ?refused⟩
  case accepted => exact exec_rbNew_accepted (ringCapOk_iff.mpr hlegal)
  case refused => exact exec_rbNew_config (mt ringCapOk_iff.mp hillegal)

end Sys2Proof.Machine
end
